-- ==== Sys2Proof/Word.lean ====
section
/-! DEFINITION. The widths of the Dorzan DZ-640 (spec/00 section 3): words, bytes, array addresses, and the numbers of
agents, lease entries, wait entries, phases, guard spans and parameter words. -/

namespace Sys2Proof

/-- A word of the windows and of the SRAM array: 32 bits (spec/00 section 3, Words). -/
abbrev Word := BitVec 32

/-- One byte of the SRAM array. -/
abbrev Byte := BitVec 8

/-- A byte address of the 16 MiB array: 24 bits (spec/00 section 3, Words; R22). -/
abbrev Addr := BitVec 24

/-- An agent, and the port it is attached to: 0 to 5 (spec/00 section 3, Agents). -/
abbrev AgentId := Fin 6

/-- A lease entry of the Lease Table: 0 to 63 (R1). -/
abbrev EntryId := Fin 64

/-- A wait entry of the Wait List: 0 to 15 (R82). -/
abbrev WaitId := Fin 16

/-- A phase of the frame: 0 to 3 (R147). -/
abbrev Phase := Fin 4

/-- A guard span: 0 to 3 (R165). -/
abbrev GuardId := Fin 4

/-- A parameter word of a window: PARAM0 to PARAM7 (R44). -/
abbrev ParamId := Fin 8

end Sys2Proof
end

