-- ==== Sys2Proof/Syntax.lean ====
section
/-! DEFINITION. The commands of the block: one constructor of Instr for each row of spec/opcode_table.json, with the
operands its rule gives it. Each command is one claim (spec/00 section 3, Events and outcomes; R17). -/

namespace Sys2Proof

/-- The lines an agent drives in one memory-select bus cycle (R22; spec/12 section 12.4). The port supplies the agent.
-/
structure MemCycle where
  /-- APn_A[23:0]. -/
  addr : Addr
  /-- APn_BE[3:0]: the byte lanes, read for the size alone (R22). -/
  be : BitVec 4
  /-- APn_WR: 1 for a write. -/
  write : Bool
  /-- APn_FETCH: 1 for an instruction fetch, meaningful on reads. -/
  fetch : Bool
  /-- APn_PRIV: 1 for privilege P, 0 for U. -/
  priv : Bool
  /-- APn_D[31:0], driven on a write. -/
  data : Word
  deriving DecidableEq, Repr

/-- What ACCESS_DECODE takes: a cycle the agent presents now, or the one the port has held off (R23). -/
inductive MemSelect where
  | presented (c : MemCycle)
  | heldOff
  deriving DecidableEq, Repr

/-- The lines an agent drives in one window-select bus cycle (R43). APn_FETCH and APn_PRIV are not read there. -/
structure WindowCycle where
  /-- APn_A[23:0]; bits 5:2 give the word, bits above 5 are ignored (R43). -/
  addr : Addr
  /-- APn_BE[3:0]. -/
  be : BitVec 4
  /-- APn_WR alone decides between a read and a write (R43). -/
  write : Bool
  /-- APn_MSELn is asserted beside APn_WSELn: the access is taken at neither select (R43). -/
  bothSelects : Bool
  /-- APn_D[31:0], driven on a write. -/
  data : Word
  deriving DecidableEq, Repr

/-- What WINDOW_WRITE takes: a cycle the agent presents now, or the one the port has held off (R43, R185). -/
inductive WindowSelect where
  | presented (c : WindowCycle)
  | heldOff
  deriving DecidableEq, Repr

/-- The four claims of one tick: its production at the Timebase, and the claim at each block that takes it (R134). -/
inductive TickClaim where
  | produced
  | leaseTable
  | waitList
  | phaseSequencer
  deriving DecidableEq, Repr

/-- A command of the block, one constructor for each row of spec/opcode_table.json. -/
inductive Instr where
  /-- ACCESS_DECODE (R24): a memory-select access at port n. -/
  | accessDecode (n : AgentId) (c : MemSelect)
  /-- FAULT_REPORT (R40): the oldest report handed over for agent n is taken at its fault latch. -/
  | faultReport (n : AgentId)
  /-- MEMORY_GRANT (R181). -/
  | memoryGrant
  /-- MACK (R182). -/
  | mack
  /-- MERR (R182); `mack` tells whether MACK is asserted at the same clock. -/
  | merr (mack : Bool)
  /-- ACKNOWLEDGE_TIMEOUT (R182). -/
  | acknowledgeTimeout
  /-- LM_TAKE (R50). -/
  | lmTake
  /-- PASS_STEP (R89). -/
  | passStep
  /-- TEARDOWN (R176): the completion of the teardown in hand. -/
  | teardown
  /-- ACQUIRE (R63) to FORGET (R122) and BAD_CMD (R53): the completion of the command in hand, if it bears that code. -/
  | acquire
  | renew
  | narrow
  | release
  | query
  | find
  | collect
  | cancel
  | offer
  | accept
  | decline
  | fault
  | profile
  | revoke
  | detach
  | setProfile
  | lockProfile
  | setGuard
  | setTimebase
  | timebaseStop
  | timebaseStart
  | setPhases
  | scrubHold
  | scrubGo
  | retry
  | forget
  /-- PARAM_WRITE (R44). -/
  | paramWrite (n : AgentId) (i : ParamId) (v : Word)
  /-- INTSTAT_WRITE (R170). -/
  | intstatWrite (n : AgentId) (v : Word)
  /-- INTEN_WRITE (R169). -/
  | intenWrite (n : AgentId) (v : Word)
  /-- WINDOW_WRITE (R43, R185): a window-select cycle of port n, as the bus carries it. -/
  | windowWrite (n : AgentId) (c : WindowSelect)
  /-- TICK (R134). -/
  | tick (c : TickClaim)
  /-- EXPIRY (R142). -/
  | expiry
  /-- WAIT_TIMEOUT (R87). -/
  | waitTimeout
  /-- PHASE_ADVANCE (R148). -/
  | phaseAdvance
  /-- OPENING (R150). -/
  | opening
  /-- NONE_CLAIM (R150). -/
  | noneClaim
  /-- AGRST_ASSERT (R172). -/
  | agrstAssert (n : AgentId)
  /-- AGRST_RELEASE (R178). -/
  | agrstRelease (n : AgentId)
  /-- RESET_ASSERT (R185). -/
  | resetAssert
  /-- RESET_RELEASE (R172); `order` is the order in which the AGRSTn lines found asserted are taken. -/
  | resetRelease (order : List AgentId)
  /-- COMMAND_WRITE (R46). -/
  | commandWrite (n : AgentId) (v : Word)
  /-- BAD_CMD (R53). -/
  | badCmd
  deriving DecidableEq, Repr

end Sys2Proof
end

