-- ==== Sys2Proof/WellFormed.lean ====
section
/-! DEFINITION. Which commands spell a row of the table as its rule gives it. Agent, index and phase numbers are
bounded by their types; two operands need a check. exec gives every command a meaning, well-formed or not. -/

namespace Sys2Proof

/-- The window-select cycle has size 4 at an offset that is a multiple of 4, and the memory select is not asserted with
it: R43's word access. -/
def WindowCycle.isWord (c : WindowCycle) : Bool :=
  c.be == 0xF && c.addr.extractLsb' 0 2 == 0 && !c.bothSelects

/-- Address bits 5:2: the number of the word in the window (R43, R59). -/
def WindowCycle.word (c : WindowCycle) : Fin 16 :=
  (c.addr.extractLsb' 2 4).toFin

/-- The cycle is a write to a word that has a row of its own: PARAM0 to PARAM7, COMMAND, INTSTAT, INTEN. -/
def WindowCycle.hasOwnRow (c : WindowCycle) : Bool :=
  c.isWord && c.write && (c.word < 8 || c.word == 8 || c.word == 13 || c.word == 14)

/-- WINDOW_WRITE is for the cycles without a row of their own and for a held-off one, whatever word it addresses;
RESET_RELEASE names each port at most once. -/
def Instr.wellFormed : Instr → Bool
  | .windowWrite _ (.presented c) => !c.hasOwnRow
  | .windowWrite _ .heldOff => true
  | .resetRelease order => decide order.Nodup
  | .accessDecode .. | .faultReport .. | .memoryGrant | .mack | .merr .. | .acknowledgeTimeout | .lmTake
  | .passStep | .teardown | .acquire | .renew | .narrow | .release | .query | .find | .collect | .cancel | .offer
  | .accept | .decline | .fault | .profile | .revoke | .detach | .setProfile | .lockProfile | .setGuard
  | .setTimebase | .timebaseStop | .timebaseStart | .setPhases | .scrubHold | .scrubGo | .retry | .forget
  | .paramWrite .. | .intstatWrite .. | .intenWrite .. | .tick .. | .expiry | .waitTimeout | .phaseAdvance
  | .opening | .noneClaim | .agrstAssert .. | .agrstRelease .. | .resetAssert | .commandWrite .. | .badCmd => true

end Sys2Proof
end

