-- ==== Sys2Proof/Decode.lean ====
section
/-! DEFINITION. The commands that a word of the table's bits spells. No row of spec/opcode_table.json gives bits: the
block takes its commands from its pins and its own engines, and has no decoder. -/

namespace Sys2Proof

/-- The command that the bits w spell: none, for every word (notes/assumptions/19.md). -/
def decodeTableWord (_nbits _w : Nat) : Option Instr :=
  none

end Sys2Proof
end

