-- ==== Sys2Proof/Config.lean ====
section
/-! DEFINITION. What the spec leaves to the parts outside the DZ-640: free values, constants without a body, so that no
proof can lean on what they are. -/

namespace Sys2Proof

/-- What the SRAM array left in a word whose transfer failed or was cut off by RESET, for the k-th such word
(R35, R182, R185: "holds whatever the SRAM array left in it"). A free value, applied to State.freeIndex.
Marked as a free value in notes/assumptions/9.md; safe. -/
opaque Config.sramLeft (k : Nat) : Word

/-- What a byte of the external SRAM array holds before anything has written it; the spec gives the array no contents
at power-on. A free value, applied to the byte's address. DESIGN CHOICE (notes/assumptions/8.md); safe. -/
opaque Config.sramPowerOn (address : Nat) : Byte

end Sys2Proof
end

