-- ==== Sys2Proof/Machine/State.lean ====
section
/-! DEFINITION. The state of the DZ-640, block by block, as plain data, and its values after device reset. -/

namespace Sys2Proof.Machine

/-! ## Accesses -/

/-- Size of a memory access: 1, 2 or 4 bytes (R22). -/
inductive Size where
  | one
  | two
  | four
  deriving DecidableEq, Repr

/-- Kind of a memory access (R22). -/
inductive Kind where
  | dataRead
  | dataWrite
  | fetch
  deriving DecidableEq, Repr

/-- Privilege of a memory access: P or U (R22). -/
inductive Privilege where
  | p
  | u
  deriving DecidableEq, Repr

/-- Address, size, kind and privilege of an access: what the in-flight marker, a fault report and the fault latch
record (R32, R33, R39). -/
structure AccessInfo where
  addr : Addr
  size : Size
  kind : Kind
  priv : Privilege
  deriving DecidableEq, Repr

/-- An access as it is passed to the Memory Port, with the data of a write on its lanes (R31, R180). -/
structure Access where
  info : AccessInfo
  data : Word
  deriving DecidableEq, Repr

/-- The in-flight marker of a port when it is set: the forwarded access and the discard flag (R32). -/
structure Marker where
  info : AccessInfo
  discard : Bool
  deriving DecidableEq, Repr

/-- Why an access ended in a bus error and a fault report (R25 checks 2 to 7, R35, R39). -/
inductive Reason where
  | misaligned
  | disabled
  | noLease
  | rights
  | privilege
  | outOfPhase
  | memory
  deriving DecidableEq, Repr

/-- A fault report on its way to the fault latch (R33, R35). -/
structure FaultReport where
  info : AccessInfo
  reason : Reason
  deriving DecidableEq, Repr

/-- The answer a port drives at the end of a bus cycle (R33, R34, R43). -/
inductive BusAnswer where
  /-- A memory read or fetch: the addressed bytes, lowest address first. -/
  | bytes (bs : List Byte)
  /-- A window read: the word. -/
  | word (w : Word)
  /-- A normal acknowledge of a write. -/
  | acknowledge
  /-- APn_BERRn: the error indication, with the word that a read or a fetch returns beside it; a write returns none. -/
  | busError (data : Option Word)
  deriving DecidableEq, Repr

/-! ## The Lease Table -/

/-- A range of the array: 2^order bytes from base (R10). -/
structure Range where
  base : Addr
  order : Nat
  deriving DecidableEq, Repr

/-- A subset of {R, W, X} (R1). -/
structure Rights where
  r : Bool
  w : Bool
  x : Bool
  deriving DecidableEq, Repr

/-- The least privilege an access needs (R1). -/
inductive Floor where
  | any
  | priv
  deriving DecidableEq, Repr

/-- The compatibility class (R12). -/
inductive Share where
  | exclusive
  | sharedRead
  | shared
  deriving DecidableEq, Repr

/-- The two term modes that count (R11). -/
inductive Timed where
  | fixed
  | activity
  deriving DecidableEq, Repr

/-- Term, Warn, Remaining and Warned (R1), present together under FIXED and ACTIVITY (R2). -/
structure Countdown where
  term : Nat
  warn : Nat
  remaining : Nat
  warned : Bool
  deriving DecidableEq, Repr

/-- Term mode with the fields it brings: PINNED has none (R2, R11). -/
inductive Life where
  | pinned
  | timed (mode : Timed) (count : Countdown)
  deriving DecidableEq, Repr

/-- What becomes of the range when the lease has retired and drained (R1). -/
inductive Disposition where
  | keep
  | scrub
  deriving DecidableEq, Repr

/-- Phase and Effective of a slotted lease, present together (R2, R16). -/
structure Slot where
  phase : Phase
  effective : Bool
  deriving DecidableEq, Repr

/-- The fields of a lease that ACTIVE and RETIRING entries share (R2). -/
structure Lease where
  range : Range
  rights : Rights
  floor : Floor
  share : Share
  life : Life
  disposition : Disposition
  slot : Option Slot
  deriving DecidableEq, Repr

/-- State of an entry with the fields present in it (R2). -/
inductive EntryBody where
  | free
  | active (owner : AgentId) (lease : Lease) (offer : Option AgentId)
  | retiring (owner : Option AgentId) (lease : Lease) (drain : Bool)
  | faulted (lease : Lease)
  deriving DecidableEq, Repr

/-- A lease entry: its generation, present in every state, and its body (R1, R2). -/
structure Entry where
  gen : BitVec 8
  body : EntryBody
  deriving DecidableEq, Repr

/-- The name of a lease: entry number with generation (section 1.3, R60). -/
structure Handle where
  entry : EntryId
  gen : BitVec 8
  deriving DecidableEq, Repr

/-- A claim the Phase Sequencer hands to the Lease Table (R150). -/
inductive SequencerClaim where
  | opening (p : Phase)
  | none
  deriving DecidableEq, Repr

/-- The Lease Table: its entries, the phase in force (R150), and the claims handed to it and not yet taken (R134,
R150). -/
structure LeaseTable where
  entries : Vector Entry 64
  inForce : Option Phase
  ticksDue : Nat
  sequencerClaims : List SequencerClaim
  deriving DecidableEq, Repr

/-! ## The Wait List -/

/-- Term mode, Term and Warn of a request (R63, R82). -/
inductive RequestLife where
  | pinned
  | timed (mode : Timed) (term warn : Nat)
  deriving DecidableEq, Repr

/-- A request as an ACQUIRE decodes it and a wait entry keeps it (R63, R82). -/
structure Request where
  range : Range
  rights : Rights
  floor : Floor
  share : Share
  life : RequestLife
  disposition : Disposition
  phase : Option Phase
  deriving DecidableEq, Repr

/-- Outcome of a resolved wait entry (R82). -/
inductive WaitOutcome where
  | granted (h : Handle)
  | timedOut
  | guarded
  | denied
  deriving DecidableEq, Repr

/-- State of a wait entry with the fields present in it (R82). -/
inductive WaitBody where
  | free
  | waiting (requester : AgentId) (request : Request) (deadline : Option Nat)
  | resolved (requester : AgentId) (request : Request) (outcome : WaitOutcome)
  deriving DecidableEq, Repr

/-- A wait entry (R82). -/
structure WaitEntry where
  gen : BitVec 4
  body : WaitBody
  deriving DecidableEq, Repr

/-- The Wait List: its entries, the waiting order, oldest first (R85), and the ticks not yet taken (R134). -/
structure WaitList where
  entries : Vector WaitEntry 16
  order : List WaitId
  ticksDue : Nat
  deriving DecidableEq, Repr

/-! ## Ports, profiles, guards -/

/-- State of a command window (R45). -/
inductive WindowState where
  | idle
  | pending
  | executing
  | done
  | detaching
  deriving DecidableEq, Repr

/-- An agent port: window, marker, reset line, and what passes over its bus. -/
structure Port where
  params : Vector Word 8
  code : BitVec 8
  window : WindowState
  overrun : Bool
  status : Word
  result0 : Word
  result1 : Word
  result2 : Word
  marker : Option Marker
  /-- The access presented and held off, its bus cycle left open (R23, R185). -/
  held : Option MemCycle
  /-- The window-select access presented and held off while RESET is asserted, its bus cycle left open (R43, R185). -/
  heldWindow : Option WindowCycle
  /-- Fault reports handed over and not yet taken, oldest first (R33, R35). -/
  reports : List FaultReport
  /-- AGRSTn is asserted (R172). -/
  agrst : Bool
  /-- The answer last driven at the memory select; none while a forwarded access waits for its own. -/
  memAnswer : Option BusAnswer
  /-- The answer last driven at the window select. -/
  windowAnswer : Option BusAnswer
  deriving DecidableEq, Repr

/-- A valid fault latch: the first fault, and the set of further reasons as bits 14:8 of FAULT's RESULT1 carry it (R39,
R62). -/
structure Latch where
  info : AccessInfo
  reason : Reason
  further : BitVec 7
  deriving DecidableEq, Repr

/-- An agent's profile (R159). -/
structure Profile where
  enabled : Bool
  leaseQuota : Nat
  pageQuota : Nat
  locked : Bool
  status : BitVec 9
  enable : BitVec 9
  latch : Option Latch
  deriving DecidableEq, Repr

/-- A guard span (R165). -/
structure GuardSpan where
  enabled : Bool
  range : Range
  locked : Bool
  deriving DecidableEq, Repr

/-! ## The Lease Manager -/

/-- A job of the Lease Manager (section 3.3). -/
inductive Job where
  /-- A window's command, with its code and the copy of PARAM0 to PARAM7 made at the take (R50). -/
  | command (agent : AgentId) (code : BitVec 8) (params : Vector Word 8)
  /-- The re-examination pass, with the wait entries it has not yet come to, oldest first (R89). -/
  | pass (todo : List WaitId)
  /-- The teardown of an agent (R176). -/
  | teardown (agent : AgentId)
  deriving DecidableEq, Repr

/-- The Lease Manager (section 3.3). -/
structure LeaseManager where
  job : Option Job
  list : List AgentId
  reexamine : Bool
  pointer : AgentId
  deriving DecidableEq, Repr

/-! ## Scrub Engine, Timebase, Phase Sequencer, Memory Port -/

/-- State of the Scrub Engine (R113). -/
inductive ScrubMode where
  | idle
  | running
  | suspending
  | suspended
  deriving DecidableEq, Repr

/-- The Scrub Engine (R109, R110, R113, R115, R116). -/
structure ScrubEngine where
  mode : ScrubMode
  queue : List EntryId
  /-- The chunks of the head already completed (R110); with no head it stands at 0 (notes/assumptions/25.md). -/
  progress : Nat
  sinceGo : Nat
  holdPending : Bool
  deriving DecidableEq, Repr

/-- The Timebase (R133). -/
structure Timebase where
  p : Nat
  d : Nat
  running : Bool
  count : Nat
  deriving DecidableEq, Repr

/-- The Phase Sequencer (R147), with the ticks it has not yet taken (R134). -/
structure PhaseSequencer where
  current : Option Phase
  ticksLeft : Nat
  active : Vector Nat 4
  pending : Vector Nat 4
  pendingFlag : Bool
  ticksDue : Nat
  deriving DecidableEq, Repr

/-- A chunk of a scrub: base of the head's range and number of the chunk (R180). -/
structure Chunk where
  base : Addr
  number : Nat
  deriving DecidableEq, Repr

/-- The current grant of the Memory Port (R180). -/
inductive Grant where
  | agent (n : AgentId) (a : Access)
  | chunk (c : Chunk) (word : Nat)
  deriving DecidableEq, Repr

/-- Who asks for the Memory Port (R180). -/
inductive Requester where
  | agent (n : AgentId)
  | chunk
  deriving DecidableEq, Repr

/-- The grant decision still to be taken (R181). -/
inductive DecisionDue where
  /-- None: a grant is current, or the port is free and nothing has asked. -/
  | none
  /-- The decision at the end of a grant: every waiting request takes part. -/
  | endOfGrant
  /-- The decision an arrival at a free port brings: that request is decided alone. -/
  | arrival (r : Requester)
  deriving DecidableEq, Repr

/-- The Memory Port (R180), with its strobe (R182). -/
structure MemoryPort where
  requests : Vector (Option Access) 6
  chunk : Option Chunk
  grant : Option Grant
  pointer : AgentId
  credit : Nat
  due : DecisionDue
  /-- While MSTB is asserted, the clocks counted since; none while it is deasserted (R182). -/
  strobe : Option Nat
  deriving DecidableEq, Repr

/-- The contents of the SRAM array: the bytes that something has written, in rising order of address. An address not
listed holds no value the model knows. -/
abbrev Memory := List Host.Cell

/-! ## The machine -/

/-- The state of the part, of its pins and of the array behind it. -/
structure State where
  ports : Vector Port 6
  leases : LeaseTable
  waits : WaitList
  manager : LeaseManager
  profiles : Vector Profile 6
  guards : Vector GuardSpan 4
  scrub : ScrubEngine
  timebase : Timebase
  phases : PhaseSequencer
  memPort : MemoryPort
  /-- The RESET input is asserted (R185). -/
  resetAsserted : Bool
  sram : Memory
  /-- The model's own: how many free values have been used (notes/assumptions/9.md). -/
  freeIndex : Nat
  /-- The commands waiting, first in, first out (notes/assumptions/1.md). -/
  pending : List Instr
  deriving DecidableEq, Repr

/-- Why the block stops. It has no constructor: the spec names nothing that stops the part, and gives every command an
effect. Safe: no step ends so. -/
inductive Fault where
  deriving DecidableEq, Repr

/-- Why the model has no meaning for a command. -/
inductive Refusal where
  /-- Raised by an arm of exec without a meaning yet, with the row's mnemonic. Safe. No arm raises it. -/
  | notModelled (mnemonic : String)
  deriving DecidableEq, Repr

/-! ## Device reset -/

/-- A port at device reset (R32, R44, R48, R55): window IDLE, every word 0, marker clear. -/
def Port.reset : Port where
  params := Vector.replicate 8 0
  code := 0
  window := .idle
  overrun := false
  status := 0
  result0 := 0
  result1 := 0
  result2 := 0
  marker := none
  held := none
  heldWindow := none
  reports := []
  agrst := false
  memAnswer := none
  windowAnswer := none

/-- The boot lease (R19). -/
def Lease.boot : Lease where
  range := { base := 0, order := 24 }
  rights := { r := true, w := true, x := true }
  floor := .any
  share := .exclusive
  life := .pinned
  disposition := .keep
  slot := none

/-- Entry 0 is the boot lease of agent 0, entries 1 to 63 are FREE with generation 0 (R19); no phase is in force
(R150). -/
def LeaseTable.reset : LeaseTable where
  entries := (Vector.replicate 64 { gen := 0, body := .free }).set 0 { gen := 0, body := .active 0 Lease.boot none }
  inForce := none
  ticksDue := 0
  sequencerClaims := []

/-- R86. -/
def WaitList.reset : WaitList where
  entries := Vector.replicate 16 { gen := 0, body := .free }
  order := []
  ticksDue := 0

/-- R55. -/
def LeaseManager.reset : LeaseManager where
  job := none
  list := []
  reexamine := false
  pointer := 5

/-- The profile of an agent other than 0 at device reset (R159). -/
def Profile.reset : Profile where
  enabled := false
  leaseQuota := 0
  pageQuota := 0
  locked := false
  status := 0
  enable := 0
  latch := none

/-- The profile of agent 0 at device reset (R159). -/
def Profile.resetSupervisor : Profile :=
  { Profile.reset with enabled := true, leaseQuota := 64, pageQuota := 4096 }

/-- R165. -/
def GuardSpan.reset : GuardSpan where
  enabled := false
  range := { base := 0, order := 12 }
  locked := false

/-- R113. -/
def ScrubEngine.reset : ScrubEngine where
  mode := .idle
  queue := []
  progress := 0
  sinceGo := 4
  holdPending := false

/-- R133. -/
def Timebase.reset : Timebase where
  p := 7
  d := 999
  running := true
  count := 0

/-- R147. -/
def PhaseSequencer.reset : PhaseSequencer where
  current := none
  ticksLeft := 0
  active := Vector.replicate 4 0
  pending := Vector.replicate 4 0
  pendingFlag := false
  ticksDue := 0

/-- R180. -/
def MemoryPort.reset : MemoryPort where
  requests := Vector.replicate 6 none
  chunk := none
  grant := none
  pointer := 5
  credit := 0
  due := .none
  strobe := none

/-- The machine right after device reset: RESET released, every AGRSTn released (DESIGN CHOICE,
notes/assumptions/12.md), no cycle on any bus, nothing written to the array yet. -/
def State.reset : State where
  ports := Vector.replicate 6 Port.reset
  leases := LeaseTable.reset
  waits := WaitList.reset
  manager := LeaseManager.reset
  profiles := (Vector.replicate 6 Profile.reset).set 0 Profile.resetSupervisor
  guards := Vector.replicate 4 GuardSpan.reset
  scrub := ScrubEngine.reset
  timebase := Timebase.reset
  phases := PhaseSequencer.reset
  memPort := MemoryPort.reset
  resetAsserted := false
  sram := []
  freeIndex := 0
  pending := []

/-! ## Reading and writing one record -/

/-- Entry i of the Lease Table. -/
def State.entry (s : State) (i : EntryId) : Entry := s.leases.entries[i]

/-- The state with entry i replaced. -/
def State.setEntry (s : State) (i : EntryId) (e : Entry) : State :=
  { s with leases := { s.leases with entries := s.leases.entries.set i e } }

/-- Wait entry w. -/
def State.wait (s : State) (w : WaitId) : WaitEntry := s.waits.entries[w]

/-- The state with wait entry w replaced. -/
def State.setWait (s : State) (w : WaitId) (e : WaitEntry) : State :=
  { s with waits := { s.waits with entries := s.waits.entries.set w e } }

/-- The state with another waiting order. -/
def State.setWaitOrder (s : State) (order : List WaitId) : State :=
  { s with waits := { s.waits with order := order } }

/-- Port n. -/
def State.port (s : State) (n : AgentId) : Port := s.ports[n]

/-- The state with port n replaced. -/
def State.setPort (s : State) (n : AgentId) (p : Port) : State :=
  { s with ports := s.ports.set n p }

/-- The profile of agent n. -/
def State.profile (s : State) (n : AgentId) : Profile := s.profiles[n]

/-- The state with agent n's profile replaced. -/
def State.setProfile (s : State) (n : AgentId) (p : Profile) : State :=
  { s with profiles := s.profiles.set n p }

/-- Guard span g. -/
def State.guard (s : State) (g : GuardId) : GuardSpan := s.guards[g]

/-- The state with guard span g replaced. -/
def State.setGuard (s : State) (g : GuardId) (x : GuardSpan) : State :=
  { s with guards := s.guards.set g x }

/-- The state with another job in the Lease Manager's hand. -/
def State.setJob (s : State) (j : Option Job) : State :=
  { s with manager := { s.manager with job := j } }

/-- The state with another internal job list. -/
def State.setJobList (s : State) (l : List AgentId) : State :=
  { s with manager := { s.manager with list := l } }

/-- The state with the re-examination flag at b. -/
def State.setReexamine (s : State) (b : Bool) : State :=
  { s with manager := { s.manager with reexamine := b } }

/-- The state with another Scrub Engine. -/
def State.setScrub (s : State) (x : ScrubEngine) : State := { s with scrub := x }

/-- The state with another Memory Port. -/
def State.setMemPort (s : State) (x : MemoryPort) : State := { s with memPort := x }

/-- The state with another Phase Sequencer. -/
def State.setPhases (s : State) (x : PhaseSequencer) : State := { s with phases := x }

/-- The state with another Timebase. -/
def State.setTimebase (s : State) (x : Timebase) : State := { s with timebase := x }

end Sys2Proof.Machine
end

