-- ==== Sys2Proof/Machine/Operands.lean ====
section
/-! DEFINITION. What the operands say: ranges, bus cycles, the fields of the parameter words, the codes, and the packing
of the words a window shows (R10, R13, R22, R59 to R62). -/

namespace Sys2Proof.Machine

/-! ## Numbering -/

/-- The 64 entries, in increasing order of entry number. -/
def allEntries : List EntryId := List.finRange 64

/-- The 16 wait entries, in increasing order of index. -/
def allWaits : List WaitId := List.finRange 16

/-- The six agents, in increasing order. -/
def allAgents : List AgentId := List.finRange 6

/-- The four phases, in increasing order. -/
def allPhases : List Phase := List.finRange 4

/-- The ports in the order that follows p: the one after it, wrapping from AP5 to AP0, p itself last (R50, R181). -/
def portsAfter (p : AgentId) : List AgentId := [p + 1, p + 2, p + 3, p + 4, p + 5, p]

/-! ## Fields of words -/

/-- The field of len bits of w that begins at bit lo. -/
def field (w : Word) (lo len : Nat) : Nat := (w.extractLsb' lo len).toNat

/-- Bit k of w. -/
def bit (w : Word) (k : Nat) : Bool := w.getLsbD k

/-- The word with v at bit lo upward. -/
def place (lo v : Nat) : Word := BitVec.ofNat 32 v <<< lo

/-- The word with bit k set if b. -/
def placeBit (k : Nat) (b : Bool) : Word := place k b.toNat

/-! ## Ranges (R10) -/

/-- The first byte address of the range. -/
def Range.first (r : Range) : Nat := r.base.toNat

/-- The last byte address of the range. -/
def Range.last (r : Range) : Nat := r.base.toNat + (2 ^ r.order - 1)

/-- The two ranges have a byte in common (R10). -/
def Range.overlaps (a b : Range) : Bool := decide (a.first ≤ b.last ∧ b.first ≤ a.last)

/-- The byte address lies inside the range. -/
def Range.contains (r : Range) (a : Addr) : Bool := decide (r.first ≤ a.toNat ∧ a.toNat ≤ r.last)

/-- The order lies in 12 to 24 and the base is a multiple of 2^order (R10, R64, R166). -/
def Range.valid (r : Range) : Bool :=
  decide (12 ≤ r.order ∧ r.order ≤ 24 ∧ r.base.toNat % 2 ^ r.order = 0)

/-- The pages of 4 KiB in the range (R1). -/
def Range.pages (r : Range) : Nat := 2 ^ (r.order - 12)

/-- The chunks of 256 bytes in the range (R110). -/
def Range.chunks (r : Range) : Nat := 2 ^ (r.order - 8)

/-! ## Compatibility (R12, R13) -/

/-- Both are slotted, and their phases differ. -/
def phasesDiffer : Option Phase → Option Phase → Bool
  | some p, some q => p != q
  | _, _ => false

/-- Both are SHARED_READ, or both are SHARED. -/
def sharesAgree : Share → Share → Bool
  | .sharedRead, .sharedRead => true
  | .shared, .shared => true
  | _, _ => false

/-- The compatibility rule of R13 between two ranges, each with a share mode and an optional phase. -/
def compatible (r₁ : Range) (s₁ : Share) (p₁ : Option Phase) (r₂ : Range) (s₂ : Share) (p₂ : Option Phase) : Bool :=
  !r₁.overlaps r₂ || phasesDiffer p₁ p₂ || sharesAgree s₁ s₂

/-! ## Reading an entry -/

/-- The lease an entry that is not FREE holds. -/
def EntryBody.lease? : EntryBody → Option Lease
  | .free => none
  | .active _ l _ => some l
  | .retiring _ l _ => some l
  | .faulted l => some l

/-- The Owner field (R1, R2). -/
def EntryBody.owner? : EntryBody → Option AgentId
  | .active o _ _ => some o
  | .retiring o _ _ => o
  | .free | .faulted _ => none

/-- The lease of an ACTIVE entry that agent n owns. -/
def EntryBody.activeOf (b : EntryBody) (n : AgentId) : Option Lease :=
  match b with
  | .active o l _ => if o = n then some l else none
  | .free | .retiring .. | .faulted _ => none

/-- The entry is FREE. -/
def EntryBody.isFree : EntryBody → Bool
  | .free => true
  | .active .. | .retiring .. | .faulted _ => false

/-- The entry is FAULTED. -/
def EntryBody.isFaulted : EntryBody → Bool
  | .faulted _ => true
  | .free | .active .. | .retiring .. => false

/-- Phase of the lease, absent if unslotted. -/
def Lease.phase (l : Lease) : Option Phase := l.slot.map (·.phase)

/-! ## The lines of a bus cycle (R22) -/

/-- The size the byte enables give: one lane, two adjacent lanes, or all four; any other pattern has no size. -/
def sizeOfLanes (be : BitVec 4) : Option Size :=
  if be = 0b0001 ∨ be = 0b0010 ∨ be = 0b0100 ∨ be = 0b1000 then some .one
  else if be = 0b0011 ∨ be = 0b0110 ∨ be = 0b1100 then some .two
  else if be = 0b1111 then some .four
  else none

/-- The number of bytes of a size. -/
def Size.bytes : Size → Nat
  | .one => 1
  | .two => 2
  | .four => 4

/-- APn_WR and APn_FETCH as a kind; APn_FETCH counts on reads alone. -/
def kindOf (c : MemCycle) : Kind :=
  if c.write then .dataWrite else if c.fetch then .fetch else .dataRead

/-- APn_PRIV as a privilege. -/
def privilegeOf (c : MemCycle) : Privilege := if c.priv then .p else .u

/-- The access a cycle makes; none if its byte enables give no size. -/
def accessOf (c : MemCycle) : Option Access :=
  (sizeOfLanes c.be).map fun z =>
    { info := { addr := c.addr, size := z, kind := kindOf c, priv := privilegeOf c }, data := c.data }

/-- The address is a multiple of the size (R22). -/
def AccessInfo.aligned (a : AccessInfo) : Bool := a.addr.toNat % a.size.bytes == 0

/-- MA[23:2] for the 32-bit word that contains the access (R183). -/
def AccessInfo.wordLine (a : AccessInfo) : BitVec 22 := a.addr.extractLsb' 2 22

/-- The byte addresses of the access, lowest first. -/
def AccessInfo.byteAddresses (a : AccessInfo) : List Nat :=
  (List.range a.size.bytes).map (a.addr.toNat + ·)

/-- Byte lane k of a word: bits 8k+7 to 8k. DESIGN CHOICE (notes/assumptions/10.md): the lane of the byte at address a
is a mod 4. -/
def lane (w : Word) (k : Nat) : Byte := w.extractLsb' (8 * k) 8

/-- The byte lanes that the address and the size of an access give (R22, R183). -/
def AccessInfo.lanes (a : AccessInfo) : BitVec 4 :=
  BitVec.ofNat 4 ((2 ^ a.size.bytes - 1) * 2 ^ (a.addr.toNat % 4))

/-- The bus cycle of an access, as its agent goes on driving it. -/
def Access.cycle (a : Access) : MemCycle where
  addr := a.info.addr
  be := a.info.lanes
  write := a.info.kind == .dataWrite
  fetch := a.info.kind == .fetch
  priv := a.info.priv == .p
  data := a.data

/-- The bus-error response to a kind of access: a read or a fetch returns 00000000h with it, a write is discarded
(R33). -/
def busErrorFor : Kind → BusAnswer
  | .dataRead | .fetch => .busError (some 0)
  | .dataWrite => .busError none

/-- The right a kind of access calls for (R22). -/
def Rights.allow (r : Rights) : Kind → Bool
  | .dataRead => r.r
  | .dataWrite => r.w
  | .fetch => r.x

/-- The privilege meets the floor (R22). -/
def Floor.met : Floor → Privilege → Bool
  | .any, _ => true
  | .priv, .p => true
  | .priv, .u => false

/-! ## Command codes (R60) -/

/-- The commands with a code of their own (R60). -/
inductive Command where
  | acquire
  | renew
  | narrow
  | release
  | query
  | find
  | collect
  | cancel
  | offer
  | accept
  | decline
  | fault
  | profile
  | revoke
  | detach
  | setProfile
  | lockProfile
  | setGuard
  | setTimebase
  | timebaseStop
  | timebaseStart
  | setPhases
  | scrubHold
  | scrubGo
  | retry
  | forget
  deriving DecidableEq, Repr

/-- The code of a command (R60). -/
def Command.code : Command → BitVec 8
  | .acquire => 0x01
  | .renew => 0x02
  | .narrow => 0x03
  | .release => 0x04
  | .query => 0x05
  | .find => 0x06
  | .collect => 0x07
  | .cancel => 0x08
  | .offer => 0x09
  | .accept => 0x0A
  | .decline => 0x0B
  | .fault => 0x0C
  | .profile => 0x0D
  | .revoke => 0x20
  | .detach => 0x21
  | .setProfile => 0x22
  | .lockProfile => 0x23
  | .setGuard => 0x24
  | .setTimebase => 0x25
  | .timebaseStop => 0x26
  | .timebaseStart => 0x27
  | .setPhases => 0x28
  | .scrubHold => 0x29
  | .scrubGo => 0x2A
  | .retry => 0x2B
  | .forget => 0x2C

/-- Every command, in the order of R60. -/
def allCommands : List Command :=
  [.acquire, .renew, .narrow, .release, .query, .find, .collect, .cancel, .offer, .accept, .decline, .fault, .profile,
   .revoke, .detach, .setProfile, .lockProfile, .setGuard, .setTimebase, .timebaseStop, .timebaseStart, .setPhases,
   .scrubHold, .scrubGo, .retry, .forget]

/-- The code is one of those of R60; every other code completes with BAD_CMD. -/
def knownCode (c : BitVec 8) : Bool := allCommands.any (·.code == c)

/-- The supervisor commands (R53 check 2). -/
def Command.supervisor : Command → Bool
  | .revoke | .detach | .setProfile | .lockProfile | .setGuard | .setTimebase | .timebaseStop | .timebaseStart
  | .setPhases | .scrubHold | .scrubGo | .retry | .forget => true
  | .acquire | .renew | .narrow | .release | .query | .find | .collect | .cancel | .offer | .accept | .decline
  | .fault | .profile => false

/-- The commands a disabled agent may issue (R53 check 3). -/
def Command.openToDisabled : Command → Bool
  | .fault | .collect | .query | .profile => true
  | .acquire | .renew | .narrow | .release | .find | .cancel | .offer | .accept | .decline | .revoke | .detach
  | .setProfile | .lockProfile | .setGuard | .setTimebase | .timebaseStop | .timebaseStart | .setPhases | .scrubHold
  | .scrubGo | .retry | .forget => false

/-! ## Status codes (R59) -/

/-- The status codes of a completed command (section 3.4, R59). -/
inductive StatusCode where
  | ok
  | queued
  | badCmd
  | badArg
  | denied
  | locked
  | stale
  | retired
  | notOwner
  | guarded
  | quota
  | selfOverlap
  | conflict
  | tableFull
  | waitFull
  | stillWaiting
  | notOffered
  | notHeld
  deriving DecidableEq, Repr

/-- The number of a status code (R59); 00h is no status. -/
def StatusCode.code : StatusCode → BitVec 8
  | .ok => 0x01
  | .queued => 0x02
  | .badCmd => 0x03
  | .badArg => 0x04
  | .denied => 0x05
  | .locked => 0x06
  | .stale => 0x07
  | .retired => 0x08
  | .notOwner => 0x09
  | .guarded => 0x0A
  | .quota => 0x0B
  | .selfOverlap => 0x0C
  | .conflict => 0x0D
  | .tableFull => 0x0E
  | .waitFull => 0x0F
  | .stillWaiting => 0x10
  | .notOffered => 0x11
  | .notHeld => 0x12

/-- The STATUS word: status code in bits 7:0, code of the command it answers in bits 15:8 (R59). -/
def statusWord (st : StatusCode) (code : BitVec 8) : Word := place 0 st.code.toNat ||| place 8 code.toNat

/-- A completed command's status with RESULT0 to RESULT2 (R52). -/
structure Reply where
  status : StatusCode
  r0 : Word := 0
  r1 : Word := 0
  r2 : Word := 0
  deriving DecidableEq, Repr

/-! ## Parameters (R60, R61) -/

/-- A handle word: entry number in bits 5:0, generation in bits 15:8 (R60). -/
def Handle.ofWord (w : Word) : Handle :=
  { entry := (w.extractLsb' 0 6).toFin, gen := w.extractLsb' 8 8 }

/-- The handle word of a handle; the other bits read 0 (R60). -/
def Handle.word (h : Handle) : Word := place 0 h.entry.val ||| place 8 h.gen.toNat

/-- A ticket word: index in bits 3:0, generation in bits 7:4 (R60). -/
def ticketOfWord (w : Word) : WaitId × BitVec 4 := ((w.extractLsb' 0 4).toFin, w.extractLsb' 4 4)

/-- The ticket word of a wait entry; the other bits read 0 (R60). -/
def ticketWord (w : WaitId) (gen : BitVec 4) : Word := place 0 w.val ||| place 4 gen.toNat

/-- An agent field: 3 bits holding 0 to 5 (R60). -/
def agentField (w : Word) (lo : Nat) : Option AgentId :=
  let v := field w lo 3
  if h : v < 6 then some ⟨v, h⟩ else none

/-- Rights from bits 0 to 2: R, W, X (R61). -/
def rightsField (w : Word) : Rights := { r := bit w 0, w := bit w 1, x := bit w 2 }

/-- No right is given. -/
def Rights.isEmpty (r : Rights) : Bool := !r.r && !r.w && !r.x

/-- Every right of a is a right of b. -/
def Rights.subset (a b : Rights) : Bool := (!a.r || b.r) && (!a.w || b.w) && (!a.x || b.x)

/-- Share mode from bits 9:8; 3 has no meaning (R61). -/
def shareField (w : Word) : Option Share :=
  match field w 8 2 with
  | 0 => some .exclusive
  | 1 => some .sharedRead
  | 2 => some .shared
  | _ => none

/-- Life from PARAM3 bits 1:0 and PARAM4: term in bits 15:0, warn in bits 31:16, not read under PINNED; term mode 3 has
no meaning (R61, R63). -/
def lifeField (p3 p4 : Word) : Option RequestLife :=
  match field p3 0 2 with
  | 0 => some (.timed .fixed (field p4 0 16) (field p4 16 16))
  | 1 => some (.timed .activity (field p4 0 16) (field p4 16 16))
  | 2 => some .pinned
  | _ => none

/-- Phase from PARAM5: bits 1:0 when bit 7 is set (R61, R63). -/
def phaseField (p5 : Word) : Option Phase :=
  if bit p5 7 then some (p5.extractLsb' 0 2).toFin else none

/-- The range that a base word (bits 23:0) and an order word (bits 4:0) give (R60, R61). -/
def rangeField (base order : Word) : Range := { base := base.extractLsb' 0 24, order := field order 0 5 }

/-- The request of ACQUIRE, decoded from PARAM0 to PARAM5; none where share or term mode has no meaning (R63). -/
def decodeRequest (ps : Vector Word 8) : Option Request :=
  match shareField ps[2], lifeField ps[3] ps[4] with
  | some share, some life => some
    { range := rangeField ps[0] ps[1]
      rights := rightsField ps[2]
      floor := if bit ps[2] 4 then .priv else .any
      share := share
      life := life
      disposition := if bit ps[3] 4 then .scrub else .keep
      phase := phaseField ps[5] }
  | _, _ => none

/-- Term is not 0 and Warn is less than Term (R64, R75). -/
def termValid (term warn : Nat) : Bool := decide (0 < term ∧ warn < term)

/-- The request passes the argument check of ACQUIRE (R64). -/
def Request.valid (q : Request) : Bool :=
  q.range.valid
    && !q.rights.isEmpty
    && !(q.share == .sharedRead && q.rights.w)
    && (match q.life with
        | .timed _ term warn => termValid term warn
        | .pinned => q.phase.isNone)
    && !(q.disposition == .scrub && (q.share != .exclusive || q.phase.isSome))

/-- The wait flag: PARAM6 bit 31 (R61). -/
def waitFlag (ps : Vector Word 8) : Bool := bit ps[6] 31

/-- The deadline: PARAM6 bits 15:0, absent if 0 (R61, R72). -/
def deadlineField (ps : Vector Word 8) : Option Nat :=
  let d := field ps[6] 0 16
  if d = 0 then none else some d

/-- The lease a grant writes from a request: Remaining equal to Term, Warned no, Effective no (R7). -/
def Request.lease (q : Request) : Lease where
  range := q.range
  rights := q.rights
  floor := q.floor
  share := q.share
  life := match q.life with
    | .pinned => .pinned
    | .timed m term warn => .timed m { term := term, warn := warn, remaining := term, warned := false }
  disposition := q.disposition
  slot := q.phase.map fun p => { phase := p, effective := false }

/-! ## Results (R60, R62) -/

/-- An agent or a phase in a result; 7 where it is absent (R60). -/
def orSeven {n : Nat} : Option (Fin n) → Nat
  | some x => x.val
  | none => 7

/-- State of an entry in a result (R62). -/
def EntryBody.stateCode : EntryBody → Nat
  | .free => 0
  | .active .. => 1
  | .retiring .. => 2
  | .faulted _ => 3

/-- R, W, X at bits 0 to 2 (R61, R62). -/
def Rights.code (r : Rights) : Nat := r.r.toNat + 2 * r.w.toNat + 4 * r.x.toNat

/-- The codes of R61. -/
def Floor.code : Floor → Nat
  | .any => 0
  | .priv => 1

/-- The codes of R61. -/
def Share.code : Share → Nat
  | .exclusive => 0
  | .sharedRead => 1
  | .shared => 2

/-- The codes of R61. -/
def Life.modeCode : Life → Nat
  | .timed .fixed _ => 0
  | .timed .activity _ => 1
  | .pinned => 2

/-- The codes of R61. -/
def Disposition.code : Disposition → Nat
  | .keep => 0
  | .scrub => 1

/-- Term, Warn, Remaining and Warned of a lease; absent ones read 0 (R62). -/
def Life.countdown : Life → Countdown
  | .pinned => { term := 0, warn := 0, remaining := 0, warned := false }
  | .timed _ c => c

/-- Drain of an entry; 0 outside RETIRING (R62). -/
def EntryBody.drainBit : EntryBody → Bool
  | .retiring _ _ d => d
  | .free | .active .. | .faulted _ => false

/-- Offer target of an entry. -/
def EntryBody.offer? : EntryBody → Option AgentId
  | .active _ _ t => t
  | .free | .retiring .. | .faulted _ => none

/-- RESULT0 of QUERY, in both views (R62). -/
def queryResult0 (e : Entry) (l : Lease) : Word :=
  place 0 e.gen.toNat ||| place 8 (orSeven e.body.owner?) ||| placeBit 11 e.body.drainBit
    ||| place 12 (l.range.base.toNat / 4096) ||| place 24 l.range.order ||| placeBit 29 l.life.countdown.warned
    ||| place 30 e.body.stateCode

/-- RESULT1 of QUERY, view 0 (R62). -/
def queryResult1 (l : Lease) : Word := place 0 l.life.countdown.remaining ||| place 16 l.life.countdown.term

/-- RESULT2 of QUERY, view 0 (R62). -/
def queryResult2 (e : Entry) (l : Lease) : Word :=
  place 0 l.life.countdown.warn ||| place 16 l.rights.code ||| place 19 l.floor.code ||| place 20 l.share.code
    ||| place 22 l.life.modeCode ||| place 24 l.disposition.code ||| place 25 (orSeven l.phase)
    ||| placeBit 28 (match l.slot with | some t => t.effective | none => false)
    ||| place 29 (orSeven e.body.offer?)

/-- The codes of R62. -/
def Kind.code : Kind → Nat
  | .dataRead => 0
  | .dataWrite => 1
  | .fetch => 2

/-- The codes of R62. -/
def Size.code : Size → Nat
  | .one => 0
  | .two => 1
  | .four => 2

/-- The codes of R62. -/
def Privilege.code : Privilege → Nat
  | .p => 0
  | .u => 1

/-- The codes of R62. -/
def Reason.code : Reason → Nat
  | .misaligned => 1
  | .disabled => 2
  | .noLease => 3
  | .rights => 4
  | .privilege => 5
  | .outOfPhase => 6
  | .memory => 7

/-- A reason as a member of the set of further reasons: bit code − 1 of the set, which RESULT1 of FAULT shows at bit
7 + code (R62). -/
def Reason.member (r : Reason) : BitVec 7 := 1 <<< (r.code - 1)

/-- RESULT0 of FAULT; 0 for an empty latch (R62). -/
def faultResult0 : Option Latch → Word
  | none => 0
  | some l =>
    place 0 l.info.addr.toNat ||| place 24 l.info.kind.code ||| place 26 l.info.size.code
      ||| place 28 l.info.priv.code ||| place 31 1

/-- RESULT1 of FAULT; 0 for an empty latch (R62). -/
def faultResult1 : Option Latch → Word
  | none => 0
  | some l => place 0 l.reason.code ||| place 8 l.further.toNat

/-- State of a window as the COMMAND word reports it (R59). -/
def WindowState.code : WindowState → Nat
  | .idle => 0
  | .pending => 1
  | .executing => 2
  | .done => 3
  | .detaching => 4

/-- IDENT: port number in bits 2:0, 0640h in bits 31:16 (R49). -/
def identWord (n : AgentId) : Word := place 0 n.val ||| place 16 0x0640

end Sys2Proof.Machine
end

