-- ==== Sys2Proof/Machine/Flags.lean ====
section
/-! DEFINITION. The interrupt causes: how each is set and cleared, and the IRQn lines (R59, R169 to R171). -/

namespace Sys2Proof.Machine

/-- The nine causes (R169). -/
inductive Cause where
  | done
  | grant
  | warn
  | lapse
  | revoked
  | offerIn
  | offerOut
  | fault
  | scrubFail
  deriving DecidableEq, Repr

/-- The bit of a cause in INTSTAT and INTEN (R59). -/
def Cause.mask : Cause → BitVec 9
  | .done => 0x001
  | .grant => 0x002
  | .warn => 0x004
  | .lapse => 0x008
  | .revoked => 0x010
  | .offerIn => 0x020
  | .offerOut => 0x040
  | .fault => 0x080
  | .scrubFail => 0x100

/-- The cause is in the set. -/
def Cause.isIn (c : Cause) (x : BitVec 9) : Bool := x &&& c.mask != 0

/-- Cause c is set at agent n; a cause already set stays set (R169). -/
def State.raise (s : State) (c : Cause) (n : AgentId) : State :=
  s.setProfile n { s.profile n with status := (s.profile n).status ||| c.mask }

/-- Some entry of the Lease Table is FAULTED (R120). -/
def State.anyFaulted (s : State) : Bool := allEntries.any fun i => (s.entry i).body.isFaulted

/-- The level-like causes of agent n whose condition holds: FAULT while its latch is valid (R42), SCRUB_FAIL at agent 0
while an entry is FAULTED (R120). -/
def State.levelHeld (s : State) (n : AgentId) : BitVec 9 :=
  (if (s.profile n).latch.isSome then Cause.fault.mask else 0)
    ||| (if n = 0 ∧ s.anyFaulted then Cause.scrubFail.mask else 0)

/-- A write of v to INTSTAT of agent n: each bit written 1 clears its cause, but for a level-like cause whose condition
holds (R170). Bits 31:9 are ignored. -/
def State.clearCauses (s : State) (n : AgentId) (v : Word) : State :=
  s.setProfile n
    { s.profile n with status := (s.profile n).status &&& ~~~(v.extractLsb' 0 9 &&& ~~~s.levelHeld n) }

/-- A write of v to INTEN of agent n replaces the enable (R169). Bits 31:9 are ignored. -/
def State.writeEnable (s : State) (n : AgentId) (v : Word) : State :=
  s.setProfile n { s.profile n with enable := v.extractLsb' 0 9 }

/-- The teardown empties agent n's fault latch and its interrupt status; a level-like cause whose condition still holds
is set again in the same claim (R169, R176 items 4 and 5). The latch is empty by then, so SCRUB_FAIL at agent 0 is the
one case. -/
def State.emptyStatus (s : State) (n : AgentId) : State :=
  s.setProfile n
    { s.profile n with
      latch := none
      status := if n = 0 ∧ s.anyFaulted then Cause.scrubFail.mask else 0 }

/-- A fault report is taken at agent n's latch: whole if the latch is empty, as a further reason otherwise; it sets the
FAULT cause in the same claim (R40, R42). -/
def State.takeReport (s : State) (n : AgentId) (r : FaultReport) : State :=
  let p := s.profile n
  let latch := match p.latch with
    | none => { info := r.info, reason := r.reason, further := 0 }
    | some l => { l with further := l.further ||| r.reason.member }
  s.setProfile n { p with latch := some latch, status := p.status ||| Cause.fault.mask }

/-- The IRQn output of port n is asserted: status and enable have a cause in common (R171). -/
def State.irqAsserted (s : State) (n : AgentId) : Bool :=
  (s.profile n).status &&& (s.profile n).enable != 0

end Sys2Proof.Machine
end

