-- ==== Sys2Proof/Machine/Ops.lean ====
section
/-! DEFINITION. The shared operations: the SRAM array, the lines of a word, the Memory Port, the Scrub Engine's queue,
retirement and freeing of entries, allocation and its checks, the Wait List, the Phase Sequencer, the completion of a
command, and the detach event. Every claim of the families is made of these. -/

namespace Sys2Proof.Machine

/-! ## The SRAM array -/

/-- What the list says of a byte address; none where nothing has written it. -/
def Memory.read : Memory → Nat → Option Byte
  | [], _ => none
  | (x, b) :: m, a => if x = a then some b else Memory.read m a

/-- The list with byte b at address a, addresses still strictly rising. -/
def Memory.write : Memory → Nat → Byte → Memory
  | [], a, b => [(a, b)]
  | (x, c) :: m, a, b =>
    if a < x then (a, b) :: (x, c) :: m
    else if a = x then (a, b) :: m
    else (x, c) :: Memory.write m a b

/-- Every address of the list is above a. -/
def Memory.above (a : Nat) : Memory → Bool
  | [] => true
  | (x, _) :: m => decide (a < x) && Memory.above a m

/-- The canonical form: addresses strictly rising. An unlisted address reads as no value, so no entry equals it. -/
def Memory.wf : Memory → Bool
  | [] => true
  | (x, _) :: m => Memory.above x m && Memory.wf m

/-- Several bytes written one after another. -/
def Memory.writeAll (m : Memory) (cells : List Host.Cell) : Memory :=
  cells.foldl (fun m c => m.write c.1 c.2) m

/-- The byte the array holds at an address: what was last written there, or the free value of an address that nothing
has written (notes/assumptions/8.md). -/
def State.sramByte (s : State) (a : Nat) : Byte := (s.sram.read a).getD (Config.sramPowerOn a)

/-- The word the array holds at word address x: byte 4·x + k on lane k (notes/assumptions/10.md). -/
def State.sramWord (s : State) (x : BitVec 22) : Word :=
  s.sramByte (4 * x.toNat + 3) ++ s.sramByte (4 * x.toNat + 2) ++ s.sramByte (4 * x.toNat + 1) ++
    s.sramByte (4 * x.toNat)

/-- The state with bytes written to the array. -/
def State.store (s : State) (cells : List Host.Cell) : State := { s with sram := s.sram.writeAll cells }

/-- The bytes of the word at word address x on the lanes that be enables (notes/assumptions/10.md). -/
def wordCells (x : BitVec 22) (be : BitVec 4) (w : Word) : List Host.Cell :=
  ((List.range 4).filter be.getLsbD).map fun k => (4 * x.toNat + k, lane w k)

/-- The word at word address x is left as the SRAM array left it: a fresh free value (R35, R182, R185;
notes/assumptions/9.md). -/
def State.leaveWord (s : State) (x : BitVec 22) : State :=
  { s.store (wordCells x 0xF (Config.sramLeft s.freeIndex)) with freeIndex := s.freeIndex + 1 }

/-! ## The lines of a word (R182 to R184, section 12.4) -/

/-- What the Memory Port drives for a word. -/
structure WordLines where
  /-- MA[23:2]. -/
  ma : BitVec 22
  /-- MBE[3:0]. -/
  mbe : BitVec 4
  /-- MWE: 1 for a write. -/
  mwe : Bool
  /-- MD[31:0], driven on a write. -/
  md : Option Word
  deriving DecidableEq, Repr

/-- The word of an agent's access: a read or a fetch has all four byte enables, a write the lanes of its address and
size (R183). -/
def Access.lines (a : Access) : WordLines :=
  match a.info.kind with
  | .dataWrite => { ma := a.info.wordLine, mbe := a.info.lanes, mwe := true, md := some a.data }
  | .dataRead | .fetch => { ma := a.info.wordLine, mbe := 0xF, mwe := false, md := none }

/-- MA[23:2] of word k of a chunk: Base + 100h·number + 4·k (R184). -/
def Chunk.wordLine (c : Chunk) (k : Nat) : BitVec 22 :=
  (c.base + BitVec.ofNat 24 (256 * c.number + 4 * k)).extractLsb' 2 22

/-- Word k of a chunk: zeros, with all four byte enables (R184). -/
def Chunk.lines (c : Chunk) (k : Nat) : WordLines := { ma := c.wordLine k, mbe := 0xF, mwe := true, md := some 0 }

/-- The lines of the word in progress, or of the one that begins next under the grant; none without a grant. -/
def MemoryPort.lines (m : MemoryPort) : Option WordLines :=
  match m.grant with
  | none => none
  | some (.agent _ a) => some a.lines
  | some (.chunk c k) => some (c.lines k)

/-- The MSTB output is asserted (R182). -/
def MemoryPort.mstb (m : MemoryPort) : Bool := m.strobe.isSome

/-- The grant whose word is in progress: the current one, while MSTB is asserted. Between two words of a chunk there is
none, and MACK, MERR and the timeout are read only while there is one (R182). -/
def MemoryPort.wordInProgress (m : MemoryPort) : Option Grant := if m.mstb then m.grant else none

/-- The array takes a word that is done: a write puts the enabled lanes of MD into it, a read nothing (R182). -/
def State.takeWord (s : State) (l : WordLines) : State :=
  match l.md with
  | some d => s.store (wordCells l.ma l.mbe d)
  | none => s

/-! ## The Memory Port (R180, R181) -/

/-- Some agent request is waiting. -/
def MemoryPort.agentWaiting (m : MemoryPort) : Bool := allAgents.any fun n => m.requests[n].isSome

/-- The port has no grant, nothing waits, and no decision is still to be taken. -/
def MemoryPort.quiet (m : MemoryPort) : Bool :=
  m.grant.isNone && m.due == .none && !m.agentWaiting && m.chunk.isNone

/-- A forwarded access arrives; at a free port it brings a decision of its own (R181). -/
def MemoryPort.requestAgent (m : MemoryPort) (n : AgentId) (a : Access) : MemoryPort :=
  { m with
    requests := m.requests.set n (some a)
    due := if m.quiet then .arrival (.agent n) else m.due }

/-- A chunk request arrives; at a free port it brings a decision of its own (R181). -/
def MemoryPort.requestChunk (m : MemoryPort) (c : Chunk) : MemoryPort :=
  { m with
    chunk := some c
    due := if m.quiet then .arrival .chunk else m.due }

/-- Port n's request is granted: the pointer names n, the credit rises by one if the chunk request waits at this grant
(R181 item 2), and MSTB is asserted for the word (R182). -/
def MemoryPort.grantAgent (m : MemoryPort) (n : AgentId) (a : Access) (chunkWaits : Bool) : MemoryPort :=
  { m with
    requests := m.requests.set n none
    grant := some (.agent n a)
    pointer := n
    credit := if chunkWaits then m.credit + 1 else m.credit
    due := .none
    strobe := some 0 }

/-- The chunk request is granted: the credit returns to 0, the pointer stays (R181 item 1), and MSTB is asserted for
word 0 (R182). -/
def MemoryPort.grantChunk (m : MemoryPort) (c : Chunk) : MemoryPort :=
  { m with
    chunk := none
    grant := some (.chunk c 0)
    credit := 0
    due := .none
    strobe := some 0 }

/-- The first port with a waiting request, from the port after the pointer onward (R181 item 2). -/
def MemoryPort.nextAgent (m : MemoryPort) : Option (AgentId × Access) :=
  (portsAfter m.pointer).findSome? fun n => m.requests[n].map fun a => (n, a)

/-- The choice among every waiting request (R181). -/
def MemoryPort.decideAll (m : MemoryPort) : MemoryPort :=
  match m.chunk, m.nextAgent with
  | some c, none => m.grantChunk c
  | some c, some (n, a) => if 16 ≤ m.credit then m.grantChunk c else m.grantAgent n a true
  | none, some (n, a) => m.grantAgent n a false
  | none, none => { m with due := .none }

/-- The grant decision still to be taken, when no grant is current: the end of a grant decides among every waiting
request, the arrival at a free port decides the arrived request alone (R181). -/
def MemoryPort.decide (m : MemoryPort) : MemoryPort :=
  match m.grant, m.due with
  | some _, _ => m
  | none, .arrival (.agent n) =>
    match m.requests[n] with
    | some a => m.grantAgent n a false
    | none => m.decideAll
  | none, .arrival .chunk =>
    match m.chunk with
    | some c => m.grantChunk c
    | none => m.decideAll
  | none, .none => m.decideAll
  | none, .endOfGrant => m.decideAll

/-- The end of a grant: MSTB is deasserted, and the grant decision is still to be taken (R181, R182). -/
def MemoryPort.endGrant (m : MemoryPort) : MemoryPort :=
  { m with grant := none, due := .endOfGrant, strobe := none }

/-- Word k of a chunk has ended: MSTB is deasserted, and the next word is to begin under the same grant (R182, R184;
notes/assumptions/20.md). -/
def MemoryPort.nextWord (m : MemoryPort) (c : Chunk) (k : Nat) : MemoryPort :=
  { m with grant := some (.chunk c (k + 1)), strobe := none }

/-! ## The Scrub Engine's queue (R109, R110, R113, R114) -/

/-- The Scrub Engine requests the next chunk of the head: chunk number progress (R110). -/
def State.requestChunk (s : State) : State :=
  match s.scrub.queue with
  | [] => s
  | i :: _ =>
    match (s.entry i).body.lease? with
    | none => s
    | some l => s.setMemPort (s.memPort.requestChunk { base := l.range.base, number := s.scrub.progress })

/-- Entry i joins the tail of the scrub queue; the first of an empty queue becomes head with progress 0, and an IDLE
engine starts (R109, R114). -/
def State.joinQueue (s : State) (i : EntryId) : State :=
  let e := s.scrub
  let joined :=
    { e with
      queue := e.queue ++ [i]
      progress := if e.queue.isEmpty then 0 else e.progress }
  match e.mode with
  | .idle => (s.setScrub { joined with mode := .running }).requestChunk
  | .running | .suspending | .suspended => s.setScrub joined

/-- The engine's move at the end of a chunk, after the head has moved (R113, R116). -/
def State.moveEngine (s : State) : State :=
  let e := s.scrub
  match e.mode with
  | .running =>
    if e.holdPending && (e.queue.isEmpty || e.sinceGo == 4) then
      s.setScrub { e with mode := .suspended, holdPending := false }
    else if e.queue.isEmpty then s.setScrub { e with mode := .idle }
    else s.requestChunk
  | .suspending => s.setScrub { e with mode := .suspended }
  | .idle | .suspended => s

/-! ## Entries: freeing, drain, retirement, allocation -/

/-- Entry i becomes FREE, keeps its generation, and the re-examination flag is set (R6). -/
def State.freeEntry (s : State) (i : EntryId) : State :=
  (s.setEntry i { gen := (s.entry i).gen, body := .free }).setReexamine true

/-- A RETIRING entry whose Drain is no goes on by its disposition: KEEP becomes FREE, SCRUB joins the queue (R108). -/
def State.drained (s : State) (i : EntryId) (l : Lease) : State :=
  match l.disposition with
  | .keep => s.freeEntry i
  | .scrub => s.joinQueue i

/-- Port n has an access in flight whose address lies inside the range, whatever its discard flag (R107). -/
def State.inFlight (s : State) (n : AgentId) (r : Range) : Bool :=
  match (s.port n).marker with
  | some m => r.contains m.info.addr
  | none => false

/-- Retirement of an ACTIVE entry: RETIRING, offer cleared, Drain from the owner's marker, and on at once if it is
drained (R100). A KEEP entry so drained is FREE in this very claim (R108, R142), also where a tick expires it before the
completion of an ACQUIRE (R73), between the steps of a pass (R94) or before a SET-GUARD (R166, R168): the ACQUIRE and a
later step then find no conflict with it, and the SET-GUARD no owner. R73, R94 and R168, read alone, have it RETIRING
there; the reading is the model's (DESIGN CHOICE, notes/assumptions/23.md). -/
def State.retire (s : State) (i : EntryId) : State :=
  match (s.entry i).body with
  | .active o l _ =>
    let draining := s.inFlight o l.range
    let t := s.setEntry i { gen := (s.entry i).gen, body := .retiring (some o) l draining }
    if draining then t else t.drained i l
  | .free | .retiring .. | .faulted _ => s

/-- The operation applied to every entry in increasing order of entry number, within one claim. -/
def State.forEntries (f : State → EntryId → State) (s : State) : State := allEntries.foldl f s

/-- A draining entry of agent n is drained by the completion of n's access (R36). -/
def State.drainEntry (n : AgentId) (s : State) (i : EntryId) : State :=
  match (s.entry i).body with
  | .retiring (some o) l true =>
    if o = n then
      (s.setEntry i { gen := (s.entry i).gen, body := .retiring (some o) l false }).drained i l
    else s
  | .retiring .. | .free | .active .. | .faulted _ => s

/-- The lowest-numbered FREE entry (R7). -/
def State.firstFree (s : State) : Option EntryId := allEntries.find? fun i => (s.entry i).body.isFree

/-- Allocation of entry i to agent n for a request: generation advanced by one modulo 256, fields from the request
(R7). -/
def State.allocate (s : State) (i : EntryId) (n : AgentId) (q : Request) : State :=
  s.setEntry i { gen := (s.entry i).gen + 1, body := .active n q.lease none }

/-- The handle that the allocation of entry i gives (R7). -/
def State.nextHandle (s : State) (i : EntryId) : Handle := { entry := i, gen := (s.entry i).gen + 1 }

/-! ## Holdings and the checks on a request (R66 to R69, R90, R91, R127) -/

/-- The number of ACTIVE entries agent n owns (R3, R160). -/
def State.leasesHeld (s : State) (n : AgentId) : Nat :=
  allEntries.countP fun i => ((s.entry i).body.activeOf n).isSome

/-- The pages of the ACTIVE entries agent n owns (R3, R160). -/
def State.pagesHeld (s : State) (n : AgentId) : Nat :=
  (allEntries.map fun i =>
    match (s.entry i).body.activeOf n with
    | some l => l.range.pages
    | none => 0).sum

/-- Some enabled guard span overlaps the range, and the agent is not agent 0 (R66). -/
def State.guardedFor (s : State) (n : AgentId) (r : Range) : Bool :=
  n != 0 && (List.finRange 4).any fun g => (s.guard g).enabled && (s.guard g).range.overlaps r

/-- One more lease over the range would pass agent n's lease quota or page quota (R67). -/
def State.overQuota (s : State) (n : AgentId) (r : Range) : Bool :=
  decide ((s.profile n).leaseQuota < s.leasesHeld n + 1) ||
    decide ((s.profile n).pageQuota < s.pagesHeld n + r.pages)

/-- The range overlaps an ACTIVE entry that agent n owns (R68). -/
def State.selfOverlaps (s : State) (n : AgentId) (r : Range) : Bool :=
  allEntries.any fun i =>
    match (s.entry i).body.activeOf n with
    | some l => l.range.overlaps r
    | none => false

/-- The request conflicts, by the compatibility rule, with an entry that is not FREE (R14, R69). One that a tick has
expired conflicts while it is RETIRING (R73, R94), which a KEEP entry with no access in flight is not (DESIGN CHOICE,
notes/assumptions/23.md). -/
def State.conflicts (s : State) (q : Request) : Bool :=
  allEntries.any fun i =>
    match (s.entry i).body.lease? with
    | some l => !compatible q.range q.share q.phase l.range l.share l.phase
    | none => false

/-- A WAITING request of the wait entry overlaps the range. -/
def WaitBody.waitsOver (b : WaitBody) (r : Range) : Bool :=
  match b with
  | .waiting _ q _ => q.range.overlaps r
  | .free | .resolved .. => false

/-- The requester of a WAITING or RESOLVED entry (R82). -/
def WaitBody.requester? : WaitBody → Option AgentId
  | .waiting n _ _ => some n
  | .resolved n _ _ => some n
  | .free => none

/-- The wait entry is FREE. -/
def WaitBody.isFree : WaitBody → Bool
  | .free => true
  | .waiting .. | .resolved .. => false

/-- The wait entry is WAITING. -/
def WaitBody.isWaiting : WaitBody → Bool
  | .waiting .. => true
  | .free | .resolved .. => false

/-- The range overlaps a WAITING request of another agent (R69). -/
def State.othersWait (s : State) (n : AgentId) (r : Range) : Bool :=
  allWaits.any fun w => (s.wait w).body.waitsOver r && (s.wait w).body.requester? != some n

/-! ## The Wait List (R83, R85, R98) -/

/-- The number of agent n's wait entries that are WAITING or RESOLVED. -/
def State.waitsHeld (s : State) (n : AgentId) : Nat :=
  allWaits.countP fun w => (s.wait w).body.requester? == some n

/-- The lowest-numbered FREE wait entry (R83). -/
def State.firstFreeWait (s : State) : Option WaitId := allWaits.find? fun w => (s.wait w).body.isFree

/-- Wait entry w is resolved: it leaves the waiting order, its deadline becomes absent, and GRANT is set at its
requester (R87, R90, R92, R99). -/
def State.resolveWait (s : State) (w : WaitId) (o : WaitOutcome) : State :=
  match (s.wait w).body with
  | .waiting n q _ =>
    ((s.setWait w { gen := (s.wait w).gen, body := .resolved n q o }).setWaitOrder
      (s.waits.order.filter (· != w))).raise .grant n
  | .free | .resolved .. => s

/-- Wait entry w becomes FREE, keeps its generation, and leaves the waiting order if it stood there (R86, R95, R96). -/
def State.freeWait (s : State) (w : WaitId) : State :=
  (s.setWait w { gen := (s.wait w).gen, body := .free }).setWaitOrder (s.waits.order.filter (· != w))

/-! ## The Phase Sequencer (R148, R149, R154) -/

/-- The first of the phases, in the order given, whose length is not 0. -/
def firstOpen (lengths : Vector Nat 4) (candidates : List Phase) : Option Phase :=
  candidates.find? fun p => lengths[p] != 0

/-- Opening phase p: it becomes current with its active length left (R148). -/
def PhaseSequencer.openPhase (q : PhaseSequencer) (p : Phase) : PhaseSequencer :=
  { q with current := some p, ticksLeft := q.active[p] }

/-- The frame boundary: pending lengths are adopted, and the first phase that is not skipped opens; with every length 0
the sequencer enters NONE, and hands a NONE claim unless it stood there (R149). -/
def PhaseSequencer.boundary (q : PhaseSequencer) : PhaseSequencer × Option SequencerClaim :=
  let b := if q.pendingFlag then { q with active := q.pending, pendingFlag := false } else q
  match firstOpen b.active allPhases with
  | some p => (b.openPhase p, some (.opening p))
  | none => ({ b with current := none, ticksLeft := 0 }, if q.current.isSome then some .none else none)

/-- The advance from phase c: the first later phase that is not skipped, else across the frame boundary (R148). -/
def PhaseSequencer.advance (q : PhaseSequencer) (c : Phase) : PhaseSequencer × Option SequencerClaim :=
  match firstOpen q.active (allPhases.filter (c < ·)) with
  | some p => (q.openPhase p, some (.opening p))
  | none => q.boundary

/-- The claim of one tick at the sequencer (R148). In NONE it takes the boundary if lengths are pending, also where the
Timebase has been stopped since the tick was produced (DESIGN CHOICE, notes/assumptions/24.md). -/
def PhaseSequencer.tick (q : PhaseSequencer) : PhaseSequencer × Option SequencerClaim :=
  match q.current with
  | none => if q.pendingFlag then q.boundary else (q, none)
  | some c =>
    if 1 < q.ticksLeft then ({ q with ticksLeft := q.ticksLeft - 1 }, none)
    else { q with ticksLeft := 0 }.advance c

/-- SET-PHASES that finds the sequencer NONE and the Timebase running: the lengths are adopted at once, and the first
phase that is not skipped opens (R154). -/
def PhaseSequencer.adopt (q : PhaseSequencer) (lengths : Vector Nat 4) : PhaseSequencer × Option SequencerClaim :=
  let b := { q with active := lengths, pending := lengths, pendingFlag := false }
  match firstOpen lengths allPhases with
  | some p => (b.openPhase p, some (.opening p))
  | none => (b, none)

/-- Effective becomes yes on an ACTIVE entry slotted to p (R150). -/
def EntryBody.makeEffective (p : Phase) : EntryBody → EntryBody
  | .active o l t =>
    match l.slot with
    | some x => if x.phase = p then .active o { l with slot := some { x with effective := true } } t else .active o l t
    | none => .active o l t
  | .free => .free
  | .retiring o l d => .retiring o l d
  | .faulted l => .faulted l

/-- The Lease Table takes a claim of the sequencer: an opening puts its phase in force and makes the ACTIVE entries
slotted to it effective; a NONE claim leaves no phase in force (R150). -/
def State.takeSequencerClaim (s : State) : SequencerClaim → State
  | .opening p =>
    let t := s.forEntries fun s i => s.setEntry i { s.entry i with body := (s.entry i).body.makeEffective p }
    { t with leases := { t.leases with inForce := some p } }
  | .none => { s with leases := { s.leases with inForce := none } }

/-- The state with another list of sequencer claims on their way to the Lease Table. -/
def State.setSequencerClaims (s : State) (l : List SequencerClaim) : State :=
  { s with leases := { s.leases with sequencerClaims := l } }

/-- The Lease Table takes every sequencer claim on its way, in the order handed, and then one more in the same claim
(R150, R155). -/
def State.takeAllSequencerClaims (s : State) (last : SequencerClaim) : State :=
  (s.leases.sequencerClaims ++ [last]).foldl State.takeSequencerClaim (s.setSequencerClaims [])

/-! ## The Timebase (R134) -/

/-- The tick period in device clocks (R133). -/
def Timebase.period (t : Timebase) : Nat := (t.p + 1) * (t.d + 1)

/-- The divider produces one tick: its count returns to 0, and the tick is delivered to the Lease Table, the Wait List
and the Phase Sequencer (R134). -/
def State.produceTick (s : State) : State :=
  { s with
    timebase := { s.timebase with count := 0 }
    leases := { s.leases with ticksDue := s.leases.ticksDue + 1 }
    waits := { s.waits with ticksDue := s.waits.ticksDue + 1 }
    phases := { s.phases with ticksDue := s.phases.ticksDue + 1 } }

/-! ## The Lease Manager (R50 to R53, R89) -/

/-- The pass ends when no WAITING entry remains that it has still to examine (R89). -/
def State.endPassIfDone (s : State) : State :=
  match s.manager.job with
  | some (.pass todo) => if todo.any (s.waits.order.contains ·) then s else s.setJob none
  | some (.command ..) | some (.teardown _) | none => s

/-- The response of a completed command: STATUS, RESULT words, DONE and the DONE cause if the window is EXECUTING;
discarded otherwise (R52). -/
def State.respond (s : State) (n : AgentId) (code : BitVec 8) (r : Reply) : State :=
  let p := s.port n
  match p.window with
  | .executing =>
    (s.setPort n
      { p with
        window := .done
        status := statusWord r.status code
        result0 := r.r0
        result1 := r.r1
        result2 := r.r2 }).raise .done n
  | .idle | .pending | .done | .detaching => s

/-- A completion that changes nothing and answers a status (R52). -/
def refuse (s : State) (st : StatusCode) : State × Reply := (s, { status := st })

/-- A completion with status OK and no result words. -/
def granted (s : State) : State × Reply := (s, { status := .ok })

/-- The status with which R53's checks 2 and 3 refuse a command, if they do. -/
def State.admission (s : State) (c : Command) (n : AgentId) : Option StatusCode :=
  if c.supervisor ∧ n ≠ 0 then some .denied
  else if ¬(s.profile n).enabled ∧ ¬c.openToDisabled then some .denied
  else none

/-- The completion of the command in hand, if it bears the code of c: the effects and the reply of `run`, made against
the part as it stands, and the Lease Manager is free (R50, R52). Where it holds no such job the event does not occur and
nothing changes (notes/assumptions/2.md). -/
def State.completeWith (s : State) (c : Command)
    (run : AgentId → Vector Word 8 → State → State × Reply) : State :=
  match s.manager.job with
  | some (.command n code ps) =>
    if code = c.code then
      let t := run n ps s
      (t.1.setJob none).respond n code t.2
    else s
  | some (.pass _) | some (.teardown _) | none => s

/-- As completeWith, after the checks of R53. -/
def State.complete (s : State) (c : Command)
    (run : AgentId → Vector Word 8 → State → State × Reply) : State :=
  s.completeWith c fun n ps t =>
    match t.admission c n with
    | some st => refuse t st
    | none => run n ps t

/-- An ACTIVE entry as a command finds it: owner, lease and offer target. -/
structure ActiveView where
  owner : AgentId
  lease : Lease
  offer : Option AgentId
  deriving DecidableEq, Repr

/-- Resolution of a handle by a command that needs an ACTIVE lease (R8). -/
def State.resolve (s : State) (h : Handle) : Except StatusCode ActiveView :=
  let e := s.entry h.entry
  if e.gen ≠ h.gen then .error .stale
  else
    match e.body with
    | .free => .error .stale
    | .active o l t => .ok { owner := o, lease := l, offer := t }
    | .retiring .. => .error .retired
    | .faulted _ => .error .retired

/-- Entry i stays ACTIVE with its generation, under another owner, lease or offer target. -/
def State.setActive (s : State) (i : EntryId) (v : ActiveView) : State :=
  s.setEntry i { gen := (s.entry i).gen, body := .active v.owner v.lease v.offer }

/-- Remaining is set to Term and Warned to no; a PINNED lease has no countdown (R76, R128). -/
def Life.reload : Life → Life
  | .pinned => .pinned
  | .timed m c => .timed m { c with remaining := c.term, warned := false }

/-! ## The detach event (R174) -/

/-- A detach event for agent n: the window becomes DETACHING, a teardown joins the job list, and an access in flight is
cut off with a bus error, its completion to be discarded. It changes nothing if the window is DETACHING already. The
cycle cut off is the forwarded one that the marker records (R32). A cycle held off behind it stays held off and is
decoded once the marker clears (R23, R178), also at a second event that finds the discard flag of an earlier one, where
R174, read alone, has the port end the outstanding cycle at once; that event gives the earlier bus error again, which
the answer recorded already is (DESIGN CHOICE, notes/assumptions/27.md). -/
def State.detachEvent (s : State) (n : AgentId) : State :=
  let p := s.port n
  if p.window = .detaching then s
  else
    (s.setPort n
      { p with
        window := .detaching
        marker := p.marker.map fun m => { m with discard := true }
        memAnswer := (p.marker.map fun m => busErrorFor m.info.kind).or p.memAnswer }).setJobList (s.manager.list ++ [n])

end Sys2Proof.Machine
end

