-- ==== Sys2Proof/Machine/Access.lean ====
section
/-! DEFINITION. The Access Check Unit and the fault latch: ACCESS_DECODE and FAULT_REPORT (spec/02). -/

namespace Sys2Proof.Machine

/-- The covering entry of an access of agent n at an address: ACTIVE, owned by n, its range containing the address
(R24). -/
def State.covering (s : State) (n : AgentId) (a : Addr) : Option (EntryId × Lease) :=
  allEntries.findSome? fun i =>
    match (s.entry i).body.activeOf n with
    | some l => if l.range.contains a then some (i, l) else none
    | none => none

/-- An unslotted lease is in phase always; a slotted one while its phase is in force and it is effective (R30). -/
def State.inPhase (s : State) (l : Lease) : Bool :=
  match l.slot with
  | none => true
  | some t => s.leases.inForce == some t.phase && t.effective

/-- Checks 2 to 7 of R25, in their order: the reason of the first that fails. -/
def State.refusal (s : State) (n : AgentId) (a : AccessInfo) : Option Reason :=
  if !a.aligned then some .misaligned
  else if !(s.profile n).enabled then some .disabled
  else
    match s.covering n a.addr with
    | none => some .noLease
    | some (_, l) =>
      if !l.rights.allow a.kind then some .rights
      else if !l.floor.met a.priv then some .privilege
      else if !s.inPhase l then some .outOfPhase
      else none

/-- The port answers the memory select (R33). -/
def State.answerMem (s : State) (n : AgentId) (b : BusAnswer) : State :=
  s.setPort n { s.port n with memAnswer := some b }

/-- A fault report is handed over for agent n (R33). -/
def State.handReport (s : State) (n : AgentId) (r : FaultReport) : State :=
  s.setPort n { s.port n with reports := (s.port n).reports ++ [r] }

/-- A permitted access under an ACTIVITY lease reloads it; FIXED and PINNED stay (R31). -/
def Life.reloadByAccess : Life → Life
  | .timed .activity c => .timed .activity { c with remaining := c.term, warned := false }
  | .timed .fixed c => .timed .fixed c
  | .pinned => .pinned

/-- The reload of the covering entry in the decode claim (R31). -/
def State.reloadCovering (s : State) (n : AgentId) (a : Addr) : State :=
  match s.covering n a with
  | some (i, l) =>
    match (s.entry i).body with
    | .active o _ t =>
      s.setActive i { owner := o, lease := { l with life := l.life.reloadByAccess }, offer := t }
    | .free | .retiring .. | .faulted _ => s
  | none => s

/-- A permitted access: reload, marker set, passed to the Memory Port (R31, R32). -/
def State.forward (s : State) (n : AgentId) (a : Access) : State :=
  let t := s.reloadCovering n a.info.addr
  (t.setPort n { t.port n with marker := some { info := a.info, discard := false }, memAnswer := none }).setMemPort
    (t.memPort.requestAgent n a)

/-- The decode claim: no size or detached is a bus error without a report, a check that fails is a bus error with one,
and an access that passes is forwarded (R22, R25, R26, R31, R33). -/
def State.decodeAccess (s : State) (n : AgentId) (c : MemCycle) : State :=
  match accessOf c with
  | none => s.answerMem n (busErrorFor (kindOf c))
  | some a =>
    if (s.port n).window = .detaching then s.answerMem n (busErrorFor a.info.kind)
    else
      match s.refusal n a.info with
      | some r => (s.answerMem n (busErrorFor a.info.kind)).handReport n { info := a.info, reason := r }
      | none => s.forward n a

/-- The port takes a memory-select access: its marker is clear, and RESET is released (R23, R185). -/
def State.takesAccess (s : State) (n : AgentId) : Bool := !s.resetAsserted && (s.port n).marker.isNone

/-- The port's held-off access, if any, is replaced by h. -/
def State.setHeld (s : State) (n : AgentId) (h : Option MemCycle) : State :=
  s.setPort n { s.port n with held := h }

/-- ACCESS_DECODE (R23, R24): a presented access is decoded, or held off while the marker is set or RESET asserted; a
held-off access is taken and decoded once neither holds. -/
def execAccessDecode (n : AgentId) (c : MemSelect) (s : State) : Host.Outcome State Fault Refusal :=
  match c, (s.port n).held with
  | .presented m, _ =>
    if s.takesAccess n then .next ((s.setHeld n none).decodeAccess n m) else .next (s.setHeld n (some m))
  | .heldOff, some m =>
    if s.takesAccess n then .next ((s.setHeld n none).decodeAccess n m) else .next s
  | .heldOff, none => .next s

/-- FAULT_REPORT (R40): the oldest report handed over for agent n is taken at its latch and sets FAULT. -/
def execFaultReport (n : AgentId) (s : State) : Host.Outcome State Fault Refusal :=
  match (s.port n).reports with
  | [] => .next s
  | r :: rest => .next ((s.setPort n { s.port n with reports := rest }).takeReport n r)

end Sys2Proof.Machine
end

