-- ==== Sys2Proof/Machine/Jobs.lean ====
section
/-! DEFINITION. The Lease Manager's own claims: LM_TAKE, PASS_STEP, TEARDOWN (R50, R89 to R92, R176). -/

namespace Sys2Proof.Machine

/-- The take of a teardown: it leaves the list, and nothing else changes (R50, R51). -/
def State.takeTeardown (s : State) (n : AgentId) (rest : List AgentId) : State :=
  (s.setJobList rest).setJob (some (.teardown n))

/-- The take of the pass: the flag is cleared, and the walk starts at the head of the waiting order; it ends at once if
the order is empty (R89). -/
def State.takePass (s : State) : State :=
  ((s.setReexamine false).setJob (some (.pass s.waits.order))).endPassIfDone

/-- The take of window n's command: the window becomes EXECUTING, code and parameters are copied, the pointer names n
(R50). -/
def State.takeWindow (s : State) (n : AgentId) : State :=
  let p := s.port n
  let t := s.setPort n { p with window := .executing }
  { t with manager := { t.manager with job := some (.command n p.code p.params), pointer := n } }

/-- The first PENDING window in the order that follows the pointer (R50 item 3). -/
def State.nextWindow (s : State) : Option AgentId :=
  (portsAfter s.manager.pointer).find? fun n => (s.port n).window == .pending

/-- LM_TAKE (R50): the oldest teardown, else the pass if the flag is set, else the next PENDING window. Nothing where a
job is in hand or none is available. -/
def execLmTake (s : State) : Host.Outcome State Fault Refusal :=
  match s.manager.job with
  | some _ => .next s
  | none =>
    match s.manager.list with
    | n :: rest => .next (s.takeTeardown n rest)
    | [] =>
      if s.manager.reexamine then .next s.takePass
      else
        match s.nextWindow with
        | some n => .next (s.takeWindow n)
        | none => .next s

/-! ## The re-examination pass -/

/-- Some WAITING entry that stands before w in the waiting order overlaps the range (R91 item 2). -/
def State.overtakes (s : State) (w : WaitId) (r : Range) : Bool :=
  (s.waits.order.takeWhile (· != w)).any fun v => (s.wait v).body.waitsOver r

/-- Conditions 1 to 4 of R91: no conflict, no overtaking, quota, no self-overlap. -/
def State.grantable (s : State) (w : WaitId) (n : AgentId) (q : Request) : Bool :=
  !s.conflicts q && !s.overtakes w q.range && !s.overQuota n q.range && !s.selfOverlaps n q.range

/-- One step of the pass at wait entry w: resolved DENIED or GUARDED, granted, or left WAITING (R90 to R92). -/
def State.examine (s : State) (w : WaitId) : State :=
  match (s.wait w).body with
  | .waiting n q _ =>
    if !(s.profile n).enabled then s.resolveWait w .denied
    else if s.guardedFor n q.range then s.resolveWait w .guarded
    else if s.grantable w n q then
      match s.firstFree with
      | some i => (s.allocate i n q).resolveWait w (.granted (s.nextHandle i))
      | none => s
    else s
  | .free | .resolved .. => s

/-- PASS_STEP (R89): the next entry of the walk that is still WAITING is examined; the pass ends when none remains. -/
def execPassStep (s : State) : Host.Outcome State Fault Refusal :=
  match s.manager.job with
  | some (.pass todo) =>
    match todo.dropWhile fun w => !s.waits.order.contains w with
    | [] => .next (s.setJob none)
    | w :: rest => .next ((s.examine w).setJob (some (.pass rest))).endPassIfDone
  | some (.command ..) | some (.teardown _) | none => .next s

/-! ## The teardown -/

/-- Item 1 of R176 at one entry: an ACTIVE entry owned by n retires. -/
def State.teardownEntry (n : AgentId) (s : State) (i : EntryId) : State :=
  if ((s.entry i).body.activeOf n).isSome then s.retire i else s

/-- Item 2 of R176 at one entry: an ACTIVE entry offered to n loses its offer, and OFFER_OUT is set at its owner. -/
def State.teardownOffer (n : AgentId) (s : State) (i : EntryId) : State :=
  match (s.entry i).body with
  | .active o l (some t) =>
    if t = n then (s.setActive i { owner := o, lease := l, offer := none }).raise .offerOut o else s
  | .active _ _ none | .free | .retiring .. | .faulted _ => s

/-- Item 3 of R176 at one wait entry: a WAITING or RESOLVED entry of n becomes FREE. -/
def State.teardownWait (n : AgentId) (s : State) (w : WaitId) : State :=
  if (s.wait w).body.requester? = some n then s.freeWait w else s

/-- Item 6 of R176: the response words, the command code and the overrun flag are cleared, and the window becomes IDLE
if AGRSTn is released. -/
def State.teardownWindow (s : State) (n : AgentId) : State :=
  let p := s.port n
  s.setPort n
    { p with
      status := 0
      result0 := 0
      result1 := 0
      result2 := 0
      code := 0
      overrun := false
      window := if p.agrst then p.window else .idle }

/-- The completion claim of a teardown of agent n: items 1 to 7 of R176. -/
def State.teardown (s : State) (n : AgentId) : State :=
  let t := (s.forEntries (State.teardownEntry n)).forEntries (State.teardownOffer n)
  (((allWaits.foldl (State.teardownWait n) t).emptyStatus n).teardownWindow n).setReexamine true

/-- TEARDOWN (R176): the teardown in hand completes. -/
def execTeardown (s : State) : Host.Outcome State Fault Refusal :=
  match s.manager.job with
  | some (.teardown n) => .next ((s.teardown n).setJob none)
  | some (.command ..) | some (.pass _) | none => .next s

end Sys2Proof.Machine
end

