-- ==== Sys2Proof/Machine/Leasing.lean ====
section
/-! DEFINITION. The completions of the commands on leases: ACQUIRE, RENEW, NARROW, RELEASE, OFFER, ACCEPT, DECLINE,
REVOKE (spec/04, spec/06 section 6.1, spec/07). -/

namespace Sys2Proof.Machine

/-! ## ACQUIRE -/

/-- A wait entry is made of a request: the lowest FREE one, generation advanced by one modulo 16, last in the waiting
order (R72, R83). -/
def State.queueWait (s : State) (w : WaitId) (n : AgentId) (q : Request) (deadline : Option Nat) : State :=
  (s.setWait w { gen := (s.wait w).gen + 1, body := .waiting n q deadline }).setWaitOrder (s.waits.order ++ [w])

/-- A request that fails check 6 or 7 with status st: queued if its wait flag is set and there is room, WAIT_FULL if
there is none, st with the flag clear (R72). -/
def State.queueOr (s : State) (n : AgentId) (q : Request) (ps : Vector Word 8) (st : StatusCode) : State × Reply :=
  if waitFlag ps then
    match s.firstFreeWait with
    | some w =>
      if s.waitsHeld n < 4 then
        (s.queueWait w n q (deadlineField ps), { status := .queued, r0 := ticketWord w ((s.wait w).gen + 1) })
      else refuse s .waitFull
    | none => refuse s .waitFull
  else refuse s st

/-- The checks of ACQUIRE in the order of R63, and the grant (R64 to R72), against the part as it stands at the
completion (R73; a KEEP entry that a tick has expired since the take: DESIGN CHOICE, notes/assumptions/23.md). -/
def State.acquire (n : AgentId) (ps : Vector Word 8) (s : State) : State × Reply :=
  match decodeRequest ps with
  | none => refuse s .badArg
  | some q =>
    if !q.valid then refuse s .badArg
    else if !(s.profile n).enabled || (q.life == .pinned && n != 0) then refuse s .denied
    else if s.guardedFor n q.range then refuse s .guarded
    else if s.overQuota n q.range then refuse s .quota
    else if s.selfOverlaps n q.range then refuse s .selfOverlap
    else if s.conflicts q || s.othersWait n q.range then s.queueOr n q ps .conflict
    else
      match s.firstFree with
      | none => s.queueOr n q ps .tableFull
      | some i => (s.allocate i n q, { status := .ok, r0 := (s.nextHandle i).word })

/-- ACQUIRE (R63). It makes its argument check before check 3 of R53 (R65), and is no supervisor command. -/
def execAcquire (s : State) : Host.Outcome State Fault Refusal := .next (s.completeWith .acquire State.acquire)

/-! ## RENEW and NARROW -/

/-- The countdown that RENEW leaves (R76). -/
def Life.renew (l : Life) (newTerm : Option (Nat × Nat)) : Life :=
  match l, newTerm with
  | .pinned, _ => .pinned
  | .timed m c, none => .timed m { c with remaining := c.term, warned := false }
  | .timed m _, some (term, warn) => .timed m { term := term, warn := warn, remaining := term, warned := false }

/-- The new term and warn, when the new-term flag is set (R75). -/
def newTermField (ps : Vector Word 8) : Option (Nat × Nat) :=
  if bit ps[1] 0 then some (field ps[4] 0 16, field ps[4] 16 16) else none

/-- Check 4 of R75. -/
def Life.renewable (l : Life) (newTerm : Option (Nat × Nat)) : Bool :=
  match newTerm with
  | none => true
  | some (term, warn) => termValid term warn && l != .pinned

/-- The checks and the effect of RENEW (R74 to R76). -/
def State.renew (n : AgentId) (ps : Vector Word 8) (s : State) : State × Reply :=
  let h := Handle.ofWord ps[0]
  match s.resolve h with
  | .error st => refuse s st
  | .ok v =>
    if v.owner ≠ n then refuse s .notOwner
    else if !v.lease.life.renewable (newTermField ps) then refuse s .badArg
    else
      granted (s.setActive h.entry
        { owner := v.owner
          lease := { v.lease with life := v.lease.life.renew (newTermField ps) }
          offer := none })

/-- RENEW (R75). -/
def execRenew (s : State) : Host.Outcome State Fault Refusal := .next (s.complete .renew State.renew)

/-- Check 4 of R78 passes for a new order and new rights. -/
def Lease.narrowable (l : Lease) (order : Nat) (rights : Rights) : Bool :=
  decide (12 ≤ order ∧ order ≤ 24) && decide (order ≤ l.range.order) && !rights.isEmpty && rights.subset l.rights
    && !(l.disposition == .scrub && decide (order < l.range.order))

/-- The checks and the effect of NARROW (R74, R78, R79). -/
def State.narrow (n : AgentId) (ps : Vector Word 8) (s : State) : State × Reply :=
  let h := Handle.ofWord ps[0]
  let order := field ps[1] 0 5
  let rights := rightsField ps[2]
  match s.resolve h with
  | .error st => refuse s st
  | .ok v =>
    if v.owner ≠ n then refuse s .notOwner
    else if !v.lease.narrowable order rights then refuse s .badArg
    else
      granted ((s.setActive h.entry
        { owner := v.owner
          lease := { v.lease with rights := rights, range := { v.lease.range with order := order } }
          offer := none }).setReexamine true)

/-- NARROW (R78). -/
def execNarrow (s : State) : Host.Outcome State Fault Refusal := .next (s.complete .narrow State.narrow)

/-! ## RELEASE and REVOKE -/

/-- The checks and the effect of RELEASE (R100, R101). -/
def State.release (n : AgentId) (ps : Vector Word 8) (s : State) : State × Reply :=
  let h := Handle.ofWord ps[0]
  match s.resolve h with
  | .error st => refuse s st
  | .ok v => if v.owner ≠ n then refuse s .notOwner else granted (s.retire h.entry)

/-- RELEASE (R101). -/
def execRelease (s : State) : Host.Outcome State Fault Refusal := .next (s.complete .release State.release)

/-- The effect of REVOKE: REVOKED at the owner as it stood before the retirement (R100, R102, R105). -/
def State.revoke (_n : AgentId) (ps : Vector Word 8) (s : State) : State × Reply :=
  let h := Handle.ofWord ps[0]
  match s.resolve h with
  | .error st => refuse s st
  | .ok v => granted ((s.retire h.entry).raise .revoked v.owner)

/-- REVOKE (R102). -/
def execRevoke (s : State) : Host.Outcome State Fault Refusal := .next (s.complete .revoke State.revoke)

/-! ## OFFER, ACCEPT, DECLINE -/

/-- The checks and the effect of OFFER (R124, R125). -/
def State.offer (n : AgentId) (ps : Vector Word 8) (s : State) : State × Reply :=
  let h := Handle.ofWord ps[0]
  match s.resolve h with
  | .error st => refuse s st
  | .ok v =>
    if v.owner ≠ n then refuse s .notOwner
    else
      match agentField ps[1] 0 with
      | none => refuse s .badArg
      | some t =>
        if t = v.owner ∨ v.lease.life = .pinned then refuse s .badArg
        else if !(s.profile t).enabled then refuse s .denied
        else granted ((s.setActive h.entry { v with offer := some t }).raise .offerIn t)

/-- OFFER (R124). -/
def execOffer (s : State) : Host.Outcome State Fault Refusal := .next (s.complete .offer State.offer)

/-- The lease as an ACCEPT passes it on: reloaded, and not effective if slotted (R128). -/
def Lease.handedOver (l : Lease) : Lease :=
  { l with life := l.life.reload, slot := l.slot.map fun t => { t with effective := false } }

/-- The checks and the effect of ACCEPT (R127, R128). -/
def State.accept (n : AgentId) (ps : Vector Word 8) (s : State) : State × Reply :=
  let h := Handle.ofWord ps[0]
  match s.resolve h with
  | .error st => refuse s st
  | .ok v =>
    if v.offer ≠ some n then refuse s .notOffered
    else if s.guardedFor n v.lease.range then refuse s .guarded
    else if s.overQuota n v.lease.range then refuse s .quota
    else if s.selfOverlaps n v.lease.range then refuse s .selfOverlap
    else
      granted (((s.setActive h.entry { owner := n, lease := v.lease.handedOver, offer := none }).raise
        .offerOut v.owner).setReexamine true)

/-- ACCEPT (R127). -/
def execAccept (s : State) : Host.Outcome State Fault Refusal := .next (s.complete .accept State.accept)

/-- The checks and the effect of DECLINE (R130). -/
def State.decline (n : AgentId) (ps : Vector Word 8) (s : State) : State × Reply :=
  let h := Handle.ofWord ps[0]
  match s.resolve h with
  | .error st => refuse s st
  | .ok v =>
    if v.offer ≠ some n then refuse s .notOffered
    else granted ((s.setActive h.entry { v with offer := none }).raise .offerOut v.owner)

/-- DECLINE (R130). -/
def execDecline (s : State) : Host.Outcome State Fault Refusal := .next (s.complete .decline State.decline)

end Sys2Proof.Machine
end

