-- ==== Sys2Proof/Machine/Lines.lean ====
section
/-! DEFINITION. The lines AGRSTn and RESET: AGRST_ASSERT, AGRST_RELEASE, RESET_ASSERT, RESET_RELEASE (R172, R174, R178,
R185). -/

namespace Sys2Proof.Machine

/-- The state of port n's AGRSTn line. -/
def State.setLine (s : State) (n : AgentId) (asserted : Bool) : State :=
  s.setPort n { s.port n with agrst := asserted }

/-- AGRST_ASSERT (R172): a change of the line from released to asserted is a detach event; while RESET is asserted the
line alone changes. -/
def execAgrstAssert (n : AgentId) (s : State) : Host.Outcome State Fault Refusal :=
  if (s.port n).agrst then .next s
  else if s.resetAsserted then .next (s.setLine n true)
  else .next ((s.setLine n true).detachEvent n)

/-- The teardown of agent n is neither on the job list nor in hand. -/
def State.noTeardown (s : State) (n : AgentId) : Bool :=
  !s.manager.list.contains n && s.manager.job != some (.teardown n)

/-- AGRST_RELEASE (R178): the line is released, and a DETACHING window whose teardown has completed becomes IDLE. -/
def execAgrstRelease (n : AgentId) (s : State) : Host.Outcome State Fault Refusal :=
  if (s.port n).agrst then
    let t := s.setLine n false
    if (t.port n).window = .detaching ∧ t.noTeardown n then
      .next (t.setPort n { t.port n with window := .idle })
    else .next t
  else .next s

/-! ## RESET -/

/-- The forwarded access of agent n, waiting for its grant or granted (R180). -/
def State.forwarded (s : State) (n : AgentId) : Option Access :=
  match s.memPort.requests[n] with
  | some a => some a
  | none =>
    match s.memPort.grant with
    | some (.agent m a) => if m = n then some a else none
    | some (.chunk ..) | none => none

/-- The cycle that port n holds open through RESET: the one held off, or the forwarded one not yet answered (R185). -/
def State.openCycle (s : State) (n : AgentId) : Option MemCycle :=
  match (s.port n).held, (s.port n).marker with
  | some c, _ => some c
  | none, some m => if m.discard then none else (s.forwarded n).map Access.cycle
  | none, none => none

/-- A write word in progress leaves its SRAM word as the array left it; nothing else of the array is written (R185). -/
def State.cutWord (s : State) : State :=
  match s.memPort.lines with
  | some l => if s.memPort.mstb && l.mwe then s.leaveWord l.ma else s
  | none => s

/-- Every block at its reset values. Kept are what RESET does not reach: the array, the AGRSTn lines, the cycles the
agents hold open at either select, and the model's own queue and count of free values (R185). -/
def State.resetBlocks (s : State) : State :=
  { State.reset with
    ports := Vector.ofFn fun n =>
      { Port.reset with
        agrst := (s.port n).agrst
        held := s.openCycle n
        heldWindow := (s.port n).heldWindow }
    resetAsserted := true
    sram := s.sram
    freeIndex := s.freeIndex
    pending := s.pending }

/-- RESET_ASSERT (R185). -/
def execResetAssert (s : State) : Host.Outcome State Fault Refusal := .next s.cutWord.resetBlocks

/-- A port whose AGRSTn is asserted takes the release of RESET as an assertion of the line (R172). -/
def State.readLine (s : State) (n : AgentId) : State :=
  if (s.port n).agrst then s.detachEvent n else s

/-- RESET_RELEASE (R172, R185): each AGRSTn line is read, in the order given and then in increasing order of port. -/
def execResetRelease (order : List AgentId) (s : State) : Host.Outcome State Fault Refusal :=
  if s.resetAsserted then
    .next ((order ++ allAgents).foldl State.readLine { s with resetAsserted := false })
  else .next s

end Sys2Proof.Machine
end

