-- ==== Sys2Proof/Machine/Policy.lean ====
section
/-! DEFINITION. The completions of agent 0's policy commands, and of an unknown code: DETACH, SET_PROFILE, LOCK_PROFILE,
SET_GUARD, SET_TIMEBASE, TIMEBASE_STOP, TIMEBASE_START, SET_PHASES, BAD_CMD (spec/08 to spec/11, R53). -/

namespace Sys2Proof.Machine

/-- The checks and the effect of DETACH (R173). -/
def State.detach (_n : AgentId) (ps : Vector Word 8) (s : State) : State × Reply :=
  match agentField ps[0] 0 with
  | none => refuse s .badArg
  | some m => if m = 0 then refuse s .badArg else granted (s.detachEvent m)

/-- DETACH (R173). -/
def execDetach (s : State) : Host.Outcome State Fault Refusal := .next (s.complete .detach State.detach)

/-- The checks and the effect of SET-PROFILE (R161, R162). -/
def State.writeProfile (_n : AgentId) (ps : Vector Word 8) (s : State) : State × Reply :=
  let enabled := bit ps[1] 0
  let leases := field ps[1] 8 7
  let pages := field ps[1] 16 13
  match agentField ps[0] 0 with
  | none => refuse s .badArg
  | some m =>
    if (s.profile m).locked then refuse s .locked
    else if (m = 0 ∧ !enabled) ∨ 64 < leases ∨ 4096 < pages then refuse s .badArg
    else if leases < s.leasesHeld m ∨ pages < s.pagesHeld m then refuse s .quota
    else
      granted ((s.setProfile m
        { s.profile m with enabled := enabled, leaseQuota := leases, pageQuota := pages }).setReexamine true)

/-- SET_PROFILE (R161). -/
def execSetProfile (s : State) : Host.Outcome State Fault Refusal := .next (s.complete .setProfile State.writeProfile)

/-- The check and the effect of LOCK-PROFILE (R164). -/
def State.lockProfile (_n : AgentId) (ps : Vector Word 8) (s : State) : State × Reply :=
  match agentField ps[0] 0 with
  | none => refuse s .badArg
  | some m => granted (s.setProfile m { s.profile m with locked := true })

/-- LOCK_PROFILE (R164). -/
def execLockProfile (s : State) : Host.Outcome State Fault Refusal := .next (s.complete .lockProfile State.lockProfile)

/-- Some entry with an Owner other than agent 0 overlaps the range (R166 check 3). An entry that a tick has expired
counts while it is RETIRING; a KEEP entry that the tick has left FREE does not (DESIGN CHOICE,
notes/assumptions/23.md). -/
def State.othersHold (s : State) (r : Range) : Bool :=
  allEntries.any fun i =>
    match (s.entry i).body.owner?, (s.entry i).body.lease? with
    | some o, some l => o != 0 && l.range.overlaps r
    | _, _ => false

/-- The checks and the effect of SET-GUARD (R166, R167). -/
def State.writeGuard (_n : AgentId) (ps : Vector Word 8) (s : State) : State × Reply :=
  let g : GuardId := (ps[0].extractLsb' 0 2).toFin
  let r := rangeField ps[1] ps[2]
  let enable := bit ps[3] 0
  if (s.guard g).locked then refuse s .locked
  else if !r.valid then refuse s .badArg
  else if enable && s.othersHold r then refuse s .conflict
  else granted ((s.setGuard g { enabled := enable, range := r, locked := bit ps[3] 1 }).setReexamine true)

/-- SET_GUARD (R166). -/
def execSetGuard (s : State) : Host.Outcome State Fault Refusal := .next (s.complete .setGuard State.writeGuard)

/-- The effect of SET-TIMEBASE (R135). -/
def State.writeTimebase (_n : AgentId) (ps : Vector Word 8) (s : State) : State × Reply :=
  granted (s.setTimebase { s.timebase with p := field ps[0] 0 4, d := field ps[0] 16 12, count := 0 })

/-- SET_TIMEBASE (R135). -/
def execSetTimebase (s : State) : Host.Outcome State Fault Refusal :=
  .next (s.complete .setTimebase State.writeTimebase)

/-- The effect of TIMEBASE-STOP (R136). -/
def State.timebaseStop (_n : AgentId) (_ps : Vector Word 8) (s : State) : State × Reply :=
  granted (s.setTimebase { s.timebase with running := false })

/-- TIMEBASE_STOP (R136). -/
def execTimebaseStop (s : State) : Host.Outcome State Fault Refusal :=
  .next (s.complete .timebaseStop State.timebaseStop)

/-- The effect of TIMEBASE-START (R137). -/
def State.timebaseStart (_n : AgentId) (_ps : Vector Word 8) (s : State) : State × Reply :=
  if s.timebase.running then granted s
  else granted (s.setTimebase { s.timebase with running := true, count := 0 })

/-- TIMEBASE_START (R137). -/
def execTimebaseStart (s : State) : Host.Outcome State Fault Refusal :=
  .next (s.complete .timebaseStart State.timebaseStart)

/-- The four lengths of SET-PHASES: PARAM0 to PARAM3 bits 11:0 (R153). -/
def lengthFields (ps : Vector Word 8) : Vector Nat 4 :=
  #v[field ps[0] 0 12, field ps[1] 0 12, field ps[2] 0 12, field ps[3] 0 12]

/-- The effect of SET-PHASES by the sequencer's state (R153, R154). -/
def State.writePhases (_n : AgentId) (ps : Vector Word 8) (s : State) : State × Reply :=
  let lengths := lengthFields ps
  if s.phases.current = none ∧ s.timebase.running then
    let q := s.phases.adopt lengths
    match q.2 with
    | some c => granted ((s.setPhases q.1).takeAllSequencerClaims c)
    | none => granted (s.setPhases q.1)
  else granted (s.setPhases { s.phases with pending := lengths, pendingFlag := true })

/-- SET_PHASES (R153). -/
def execSetPhases (s : State) : Host.Outcome State Fault Refusal := .next (s.complete .setPhases State.writePhases)

/-- BAD_CMD (R53 check 1): a command in hand whose code is none of R60's completes with BAD_CMD. -/
def execBadCmd (s : State) : Host.Outcome State Fault Refusal :=
  match s.manager.job with
  | some (.command n code _) =>
    if knownCode code then .next s else .next ((s.setJob none).respond n code { status := .badCmd })
  | some (.pass _) | some (.teardown _) | none => .next s

end Sys2Proof.Machine
end

