-- ==== Sys2Proof/Machine/Reading.lean ====
section
/-! DEFINITION. The completions of the commands that read, and of those that take back what the part keeps for the
agent: QUERY, FIND, PROFILE, FAULT, COLLECT, CANCEL (spec/03 section 3.5, R41, R95, R96). -/

namespace Sys2Proof.Machine

/-- Agent n may see the entry (R56). -/
def Entry.visibleTo (e : Entry) (n : AgentId) : Bool :=
  n == 0 || e.body.owner? == some n || e.body.offer? == some n

/-- Entry i is head of the scrub queue (R109). -/
def ScrubEngine.isHead (x : ScrubEngine) (i : EntryId) : Bool := x.queue.head? == some i

/-- RESULT1 of QUERY, view 1: chunks completed, in scrub queue, head (R56, R62). -/
def ScrubEngine.standing (x : ScrubEngine) (i : EntryId) : Word :=
  place 0 (if x.isHead i then x.progress else 0) ||| placeBit 30 (x.queue.contains i) ||| placeBit 31 (x.isHead i)

/-- The checks and the result of QUERY (R56, R62). -/
def State.query (n : AgentId) (ps : Vector Word 8) (s : State) : State × Reply :=
  let h := Handle.ofWord ps[0]
  let e := s.entry h.entry
  if e.gen ≠ h.gen then refuse s .stale
  else
    match e.body.lease? with
    | none => refuse s .stale
    | some l =>
      if !e.visibleTo n then refuse s .notOwner
      else if bit ps[1] 0 then
        (s, { status := .ok, r0 := queryResult0 e l, r1 := s.scrub.standing h.entry, r2 := place 0 l.range.chunks })
      else (s, { status := .ok, r0 := queryResult0 e l, r1 := queryResult1 l, r2 := queryResult2 e l })

/-- QUERY (R56). -/
def execQuery (s : State) : Host.Outcome State Fault Refusal := .next (s.complete .query State.query)

/-- What FIND looks for: the entries of one agent, or every entry that is not FREE (R57). -/
inductive Selector where
  | agent (m : AgentId)
  | any
  deriving DecidableEq, Repr

/-- FIND's selector: PARAM1 bit 7 ANY, bits 2:0 an agent (R57). -/
def selectorField (ps : Vector Word 8) : Option Selector :=
  if bit ps[1] 7 then some .any else (agentField ps[1] 0).map .agent

/-- The selector an agent other than 0 may name is itself (R57). -/
def Selector.allowed (x : Selector) (n : AgentId) : Bool := n == 0 || x == .agent n

/-- The selector matches the entry: ACTIVE and RETIRING entries by their Owner field, or every non-FREE entry (R57). -/
def Selector.hits (x : Selector) (b : EntryBody) : Bool :=
  match x with
  | .agent m => b.owner? == some m
  | .any => !b.isFree

/-- The lowest-numbered entry from `start` upward that the selector matches (R57). -/
def State.findFrom (s : State) (start : EntryId) (x : Selector) : Option EntryId :=
  allEntries.find? fun i => decide (start ≤ i) && x.hits (s.entry i).body

/-- The checks and the result of FIND (R57, R60). -/
def State.find (n : AgentId) (ps : Vector Word 8) (s : State) : State × Reply :=
  match selectorField ps with
  | none => refuse s .badArg
  | some x =>
    if !x.allowed n then refuse s .denied
    else
      match s.findFrom (ps[0].extractLsb' 0 6).toFin x with
      | some i =>
        (s, { status := .ok
              r0 := Handle.word { entry := i, gen := (s.entry i).gen }
              r1 := place 0 (s.entry i).body.stateCode })
      | none => (s, { status := .ok, r0 := placeBit 31 true })

/-- FIND (R57). -/
def execFind (s : State) : Host.Outcome State Fault Refusal := .next (s.complete .find State.find)

/-- RESULT0 to RESULT2 of PROFILE for agent m (R58, R62). -/
def State.profileReply (s : State) (m : AgentId) : Reply :=
  let p := s.profile m
  { status := .ok
    r0 := placeBit 0 p.enabled ||| placeBit 1 p.locked ||| place 8 p.leaseQuota ||| place 16 p.pageQuota
    r1 := place 0 (s.leasesHeld m) ||| place 16 (s.pagesHeld m)
    r2 := place 0 p.status.toNat ||| place 16 p.enable.toNat ||| place 28 (s.waitsHeld m)
      ||| placeBit 31 p.latch.isSome }

/-- The checks and the result of PROFILE (R58). -/
def State.readProfile (n : AgentId) (ps : Vector Word 8) (s : State) : State × Reply :=
  match agentField ps[0] 0 with
  | none => refuse s .badArg
  | some m => if n ≠ 0 ∧ m ≠ n then refuse s .denied else (s, s.profileReply m)

/-- PROFILE (R58). -/
def execProfile (s : State) : Host.Outcome State Fault Refusal := .next (s.complete .profile State.readProfile)

/-- FAULT returns the latch and empties it; the FAULT cause stays (R41). -/
def State.readFault (n : AgentId) (_ps : Vector Word 8) (s : State) : State × Reply :=
  let p := s.profile n
  (s.setProfile n { p with latch := none },
    { status := .ok, r0 := faultResult0 p.latch, r1 := faultResult1 p.latch })

/-- FAULT (R41). -/
def execFault (s : State) : Host.Outcome State Fault Refusal := .next (s.complete .fault State.readFault)

/-- Resolution of a ticket by COLLECT and CANCEL (R84). -/
def State.resolveTicket (s : State) (n : AgentId) (t : WaitId × BitVec 4) : Except StatusCode WaitBody :=
  let e := s.wait t.1
  if e.body.isFree then .error .stale
  else if e.gen ≠ t.2 then .error .stale
  else if e.body.requester? ≠ some n then .error .notOwner
  else .ok e.body

/-- The reply that reports an outcome: RESULT0 bits 2:0, and the handle in RESULT1 for GRANTED (R60, R95). -/
def WaitOutcome.reply : WaitOutcome → Reply
  | .granted h => { status := .ok, r0 := place 0 1, r1 := h.word }
  | .timedOut => { status := .ok, r0 := place 0 2 }
  | .guarded => { status := .ok, r0 := place 0 3 }
  | .denied => { status := .ok, r0 := place 0 4 }

/-- The effect of COLLECT (R95). -/
def State.collect (n : AgentId) (ps : Vector Word 8) (s : State) : State × Reply :=
  let t := ticketOfWord ps[0]
  match s.resolveTicket n t with
  | .error st => refuse s st
  | .ok (.resolved _ _ o) => (s.freeWait t.1, o.reply)
  | .ok (.waiting ..) => refuse s .stillWaiting
  | .ok .free => refuse s .stale

/-- COLLECT (R95). -/
def execCollect (s : State) : Host.Outcome State Fault Refusal := .next (s.complete .collect State.collect)

/-- The effect of CANCEL (R96). -/
def State.cancel (n : AgentId) (ps : Vector Word 8) (s : State) : State × Reply :=
  let t := ticketOfWord ps[0]
  match s.resolveTicket n t with
  | .error st => refuse s st
  | .ok (.waiting ..) => granted ((s.freeWait t.1).setReexamine true)
  | .ok (.resolved ..) => refuse s .retired
  | .ok .free => refuse s .stale

/-- CANCEL (R96). -/
def execCancel (s : State) : Host.Outcome State Fault Refusal := .next (s.complete .cancel State.cancel)

end Sys2Proof.Machine
end

