-- ==== Sys2Proof/Machine/Scrubbing.lean ====
section
/-! DEFINITION. The completions of the commands on the Scrub Engine and on FAULTED entries: SCRUB_HOLD, SCRUB_GO, RETRY,
FORGET (spec/06 sections 6.5 and 6.6). -/

namespace Sys2Proof.Machine

/-- The reply of SCRUB-HOLD: status OK, and the deferred bit in RESULT0 bit 0 (R60, R116). -/
def holdReply (deferred : Bool) : Reply := { status := .ok, r0 := placeBit 0 deferred }

/-- The effect of SCRUB-HOLD by the engine's state (R116). -/
def State.scrubHold (_n : AgentId) (_ps : Vector Word 8) (s : State) : State × Reply :=
  let e := s.scrub
  match e.mode with
  | .idle => (s.setScrub { e with mode := .suspended }, holdReply false)
  | .running =>
    if e.holdPending then (s, holdReply true)
    else if e.sinceGo < 4 then (s.setScrub { e with holdPending := true }, holdReply true)
    else (s.setScrub { e with mode := .suspending }, holdReply false)
  | .suspending | .suspended => (s, holdReply false)

/-- SCRUB_HOLD (R116). -/
def execScrubHold (s : State) : Host.Outcome State Fault Refusal := .next (s.complete .scrubHold State.scrubHold)

/-- The effect of SCRUB-GO by the engine's state (R117). -/
def State.scrubGo (_n : AgentId) (_ps : Vector Word 8) (s : State) : State × Reply :=
  let e := s.scrub
  match e.mode with
  | .suspended =>
    if e.queue.isEmpty then granted (s.setScrub { e with mode := .idle, sinceGo := 0 })
    else granted (s.setScrub { e with mode := .running, sinceGo := 0 }).requestChunk
  | .running =>
    if e.holdPending then granted (s.setScrub { e with holdPending := false }) else refuse s .notHeld
  | .suspending => granted (s.setScrub { e with mode := .running })
  | .idle => refuse s .notHeld

/-- SCRUB_GO (R117). -/
def execScrubGo (s : State) : Host.Outcome State Fault Refusal := .next (s.complete .scrubGo State.scrubGo)

/-- Resolution of a handle by RETRY and FORGET, which need a FAULTED entry (R121, R122). -/
def State.resolveFaulted (s : State) (h : Handle) : Except StatusCode Lease :=
  let e := s.entry h.entry
  if e.gen ≠ h.gen then .error .stale
  else
    match e.body with
    | .free => .error .stale
    | .active .. => .error .stale
    | .retiring .. => .error .retired
    | .faulted l => .ok l

/-- The effect of RETRY: RETIRING without an owner, Drain no, at the tail of the scrub queue (R121). -/
def State.retry (_n : AgentId) (ps : Vector Word 8) (s : State) : State × Reply :=
  let h := Handle.ofWord ps[0]
  match s.resolveFaulted h with
  | .error st => refuse s st
  | .ok l =>
    granted ((s.setEntry h.entry
      { gen := (s.entry h.entry).gen, body := .retiring none l false }).joinQueue h.entry)

/-- RETRY (R121). -/
def execRetry (s : State) : Host.Outcome State Fault Refusal := .next (s.complete .retry State.retry)

/-- The effect of FORGET: the entry becomes FREE (R122). -/
def State.forget (_n : AgentId) (ps : Vector Word 8) (s : State) : State × Reply :=
  let h := Handle.ofWord ps[0]
  match s.resolveFaulted h with
  | .error st => refuse s st
  | .ok _ => granted (s.freeEntry h.entry)

/-- FORGET (R122). -/
def execForget (s : State) : Host.Outcome State Fault Refusal := .next (s.complete .forget State.forget)

end Sys2Proof.Machine
end

