-- ==== Sys2Proof/Machine/Words.lean ====
section
/-! DEFINITION. The words of the memory port: MEMORY_GRANT, MACK, MERR, ACKNOWLEDGE_TIMEOUT, with the completion of an
access and the end of a chunk (spec/12; R34 to R36, R111, R112, R119). -/

namespace Sys2Proof.Machine

/-! ## The end of an agent's access -/

/-- The completion claim of agent n's access: the port answers unless the discard flag is set, clears its marker, hands
over the reports given, the grant ends, and every entry draining for n is drained (R34 to R36, R183). -/
def State.completeAccess (s : State) (n : AgentId) (b : BusAnswer) (reports : List FaultReport) : State :=
  let p := s.port n
  let answers := match p.marker with
    | some m => !m.discard
    | none => false
  ((s.setPort n
    { p with
      marker := none
      memAnswer := if answers then some b else p.memAnswer
      reports := if answers then p.reports ++ reports else p.reports }).setMemPort s.memPort.endGrant).forEntries
    (State.drainEntry n)

/-- The bytes a read or a fetch returns: the addressed ones of the whole word that the transfer reads (R34, R183). -/
def State.readBytes (s : State) (a : AccessInfo) : List Byte :=
  a.byteAddresses.map fun b => lane (s.sramWord a.wordLine) (b % 4)

/-- The word of agent n's access is done: a write puts its lanes into the array, a read answers the addressed bytes
(R34, R183). -/
def State.accessDone (s : State) (n : AgentId) (a : Access) : State :=
  match a.info.kind with
  | .dataWrite => (s.takeWord a.lines).completeAccess n .acknowledge []
  | .dataRead | .fetch => s.completeAccess n (.bytes (s.readBytes a.info)) []

/-- The word of agent n's access has failed: a bus error, a MEMORY report, and the word as the array left it (R35). -/
def State.accessFailed (s : State) (n : AgentId) (a : Access) : State :=
  (s.leaveWord a.info.wordLine).completeAccess n (busErrorFor a.info.kind) [{ info := a.info, reason := .memory }]

/-! ## The end of a chunk -/

/-- The completion of the head's outstanding chunk: head progress and counter rise by one, the last chunk frees the head
and moves the queue on, and the engine moves (R111 to R113). The next head has progress 0 (R112); where there is none,
and so no head progress, the field is left at 0 as at reset (DESIGN CHOICE, notes/assumptions/25.md). -/
def State.chunkDone (s : State) : State :=
  let e := { s.scrub with progress := s.scrub.progress + 1, sinceGo := min 4 (s.scrub.sinceGo + 1) }
  match e.queue with
  | [] => (s.setScrub e).moveEngine
  | i :: rest =>
    match (s.entry i).body.lease? with
    | some l =>
      if e.progress = l.range.chunks then
        ((s.freeEntry i).setScrub { e with queue := rest, progress := 0 }).moveEngine
      else (s.setScrub e).moveEngine
    | none => (s.setScrub e).moveEngine

/-- The failure of the head's outstanding chunk: the head becomes FAULTED and leaves the queue, SCRUB_FAIL is set at
agent 0, and the engine moves (R113, R119). The next head has progress 0 (R119); where there is none, and so no head
progress, the field is left at 0 as at reset (DESIGN CHOICE, notes/assumptions/25.md). -/
def State.chunkFailed (s : State) : State :=
  match s.scrub.queue with
  | [] => s.moveEngine
  | i :: rest =>
    match (s.entry i).body.lease? with
    | some l =>
      (((s.setEntry i { gen := (s.entry i).gen, body := .faulted l }).setScrub
        { s.scrub with queue := rest, progress := 0 }).raise .scrubFail 0).moveEngine
    | none => s.moveEngine

/-! ## The end of a word -/

/-- The current word ends as done (R182): an access completes, or a chunk goes on to its next word, or ends after word
63 (R184). Nothing changes while no word is in progress; the next word of a chunk is not until a clock has begun it
(State.clockWord; notes/assumptions/20.md). -/
def State.wordDone (s : State) : State :=
  match s.memPort.wordInProgress with
  | none => s
  | some (.agent n a) => s.accessDone n a
  | some (.chunk c k) =>
    let t := s.takeWord (c.lines k)
    if k < 63 then t.setMemPort (t.memPort.nextWord c k)
    else (t.setMemPort t.memPort.endGrant).chunkDone

/-- The current word ends as failed (R182): an access completes with an error, a chunk ends at that word (R184).
Nothing changes while no word is in progress. -/
def State.wordFailed (s : State) : State :=
  match s.memPort.wordInProgress with
  | none => s
  | some (.agent n a) => s.accessFailed n a
  | some (.chunk c k) => ((s.leaveWord (c.wordLine k)).setMemPort s.memPort.endGrant).chunkFailed

/-- MEMORY_GRANT (R181): the grant decision still to be taken; nothing while a grant is current. -/
def execMemoryGrant (s : State) : Host.Outcome State Fault Refusal := .next (s.setMemPort s.memPort.decide)

/-- MACK (R182): ends the current word as done; ignored while MSTB is not asserted. -/
def execMack (s : State) : Host.Outcome State Fault Refusal := .next s.wordDone

/-- MERR (R182): ends the current word as failed, whether or not MACK is asserted at the same clock; ignored while
MSTB is not asserted. -/
def execMerr (_mack : Bool) (s : State) : Host.Outcome State Fault Refusal := .next s.wordFailed

/-- ACKNOWLEDGE_TIMEOUT (R182): 256 memory-port clocks have passed since MSTB was asserted, and the word has failed
as with MERR; nothing while MSTB is not asserted. -/
def execAcknowledgeTimeout (s : State) : Host.Outcome State Fault Refusal := .next s.wordFailed

end Sys2Proof.Machine
end

