-- ==== Sys2Proof/Machine/Time.lean ====
section
/-! DEFINITION. Time: TICK, EXPIRY, WAIT_TIMEOUT, PHASE_ADVANCE, OPENING, NONE_CLAIM, and the device clock that a step
on an empty queue is (spec/08, spec/09; R87, R182). -/

namespace Sys2Proof.Machine

/-! ## The tick's claim at the Lease Table -/

/-- The countdown of a lease with another Remaining and Warned. -/
def Lease.withCount (l : Lease) (m : Timed) (c : Countdown) (remaining : Nat) (warned : Bool) : Lease :=
  { l with life := .timed m { c with remaining := remaining, warned := warned } }

/-- One tick at entry i: an ACTIVE entry of FIXED or ACTIVITY counts down by one; at Warn it is warned, at 0 it expires,
with the cause at its owner (R139, R140, R142). Every tick counts, the first after a TIMEBASE-START too, so Remaining r
expires at the r-th tick (R139), where R146, read alone, has one tick more after a stop (DESIGN CHOICE,
notes/assumptions/26.md). What an expired KEEP entry is beside R73, R94, R166 and R168 is the model's reading too
(DESIGN CHOICE, notes/assumptions/23.md). -/
def State.tickEntry (s : State) (i : EntryId) : State :=
  match (s.entry i).body with
  | .active o l t =>
    match l.life with
    | .pinned => s
    | .timed m c =>
      let r := c.remaining - 1
      if r = 0 then
        ((s.setActive i { owner := o, lease := l.withCount m c 0 c.warned, offer := t }).retire i).raise .lapse o
      else if r = c.warn then
        (s.setActive i { owner := o, lease := l.withCount m c r true, offer := t }).raise .warn o
      else s.setActive i { owner := o, lease := l.withCount m c r c.warned, offer := t }
  | .free | .retiring .. | .faulted _ => s

/-- The claim of one tick at the Lease Table, if one is due there: every entry, in increasing order of entry number
(R103, R134, R139). -/
def State.leaseTick (s : State) : State :=
  match s.leases.ticksDue with
  | 0 => s
  | k + 1 => State.forEntries State.tickEntry { s with leases := { s.leases with ticksDue := k } }

/-- The next tick at the Lease Table brings the entry's Remaining to 0. -/
def EntryBody.expiresNext : EntryBody → Bool
  | .active _ l _ =>
    match l.life with
    | .timed _ c => c.remaining - 1 == 0
    | .pinned => false
  | .free | .retiring .. | .faulted _ => false

/-! ## The tick's claim at the Wait List -/

/-- One tick at wait entry w: a present deadline is decremented, and at 0 the entry is resolved TIMED_OUT (R87). -/
def State.tickWait (s : State) (w : WaitId) : State :=
  match (s.wait w).body with
  | .waiting n q (some d) =>
    if d - 1 = 0 then s.resolveWait w .timedOut
    else s.setWait w { gen := (s.wait w).gen, body := .waiting n q (some (d - 1)) }
  | .waiting _ _ none | .free | .resolved .. => s

/-- The claim of one tick at the Wait List, if one is due there (R87, R134). A pass that has nothing left to examine
ends with it (R89). -/
def State.waitTick (s : State) : State :=
  match s.waits.ticksDue with
  | 0 => s
  | k + 1 => (allWaits.foldl State.tickWait { s with waits := { s.waits with ticksDue := k } }).endPassIfDone

/-- The next tick at the Wait List brings the entry's deadline to 0. -/
def WaitBody.timesOutNext : WaitBody → Bool
  | .waiting _ _ (some d) => d - 1 == 0
  | .waiting _ _ none | .free | .resolved .. => false

/-! ## The tick's claim at the Phase Sequencer -/

/-- The sequencer hands a claim to the Lease Table (R150). -/
def State.handClaim (s : State) : Option SequencerClaim → State
  | some c => s.setSequencerClaims (s.leases.sequencerClaims ++ [c])
  | none => s

/-- The claim of one tick at the Phase Sequencer, if one is due there (R134, R148). A tick produced before a
TIMEBASE-STOP is still due in the stop (R134, R136), and if a SET-PHASES of the stop has left lengths pending in NONE,
it takes them up and opens a phase there. R153 and R154, read alone, have the sequencer stay NONE until the first tick
after TIMEBASE-START; the reading is the model's (DESIGN CHOICE, notes/assumptions/24.md). -/
def State.phaseTick (s : State) : State :=
  match s.phases.ticksDue with
  | 0 => s
  | k + 1 =>
    let q := { s.phases with ticksDue := k }.tick
    (s.setPhases q.1).handClaim q.2

/-! ## The commands -/

/-- TICK (R134): the divider reaches its period and delivers a tick to three blocks, while the Timebase runs and RESET
is released; or one of those blocks takes the tick it is due. -/
def execTick (c : TickClaim) (s : State) : Host.Outcome State Fault Refusal :=
  match c with
  | .produced => if s.timebase.running && !s.resetAsserted then .next s.produceTick else .next s
  | .leaseTable => .next s.leaseTick
  | .waitList => .next s.waitTick
  | .phaseSequencer => .next s.phaseTick

/-- EXPIRY (R142): the claim of a tick at the Lease Table that brings some entry's Remaining to 0; nothing where the
next tick expires none. -/
def execExpiry (s : State) : Host.Outcome State Fault Refusal :=
  if allEntries.any fun i => (s.entry i).body.expiresNext then .next s.leaseTick else .next s

/-- WAIT_TIMEOUT (R87): the claim of a tick at the Wait List that brings some deadline to 0; nothing where the next tick
times out none. -/
def execWaitTimeout (s : State) : Host.Outcome State Fault Refusal :=
  if allWaits.any fun w => (s.wait w).body.timesOutNext then .next s.waitTick else .next s

/-- PHASE_ADVANCE (R148): the claim of a tick at the sequencer that ends the current phase; nothing where the next tick
ends none. -/
def execPhaseAdvance (s : State) : Host.Outcome State Fault Refusal :=
  if s.phases.current.isSome && decide (s.phases.ticksLeft ≤ 1) then .next s.phaseTick else .next s

/-- OPENING (R150): the Lease Table takes the oldest sequencer claim, if it is an opening. -/
def execOpening (s : State) : Host.Outcome State Fault Refusal :=
  match s.leases.sequencerClaims with
  | .opening p :: rest => .next ((s.setSequencerClaims rest).takeSequencerClaim (.opening p))
  | .none :: _ | [] => .next s

/-- NONE_CLAIM (R150): the Lease Table takes the oldest sequencer claim, if it is a NONE claim. -/
def execNoneClaim (s : State) : Host.Outcome State Fault Refusal :=
  match s.leases.sequencerClaims with
  | .none :: rest => .next ((s.setSequencerClaims rest).takeSequencerClaim .none)
  | .opening _ :: _ | [] => .next s

/-! ## The device clock -/

/-- One clock at the divider: it counts while Running is yes, and at the clock that would take the count past its last
value it produces a tick (R133, R134). -/
def State.clockDivider (s : State) : State :=
  if s.timebase.running then
    if s.timebase.count + 1 < s.timebase.period then
      s.setTimebase { s.timebase with count := s.timebase.count + 1 }
    else s.produceTick
  else s

/-- One clock under a grant: with MSTB deasserted the chunk's next word begins, with MSTB asserted and the timeout count
at 0; a word that has had 256 clocks without an acknowledge has failed (R182). -/
def State.clockWord (s : State) : State :=
  match s.memPort.grant, s.memPort.strobe with
  | none, _ => s
  | some _, none => s.setMemPort { s.memPort with strobe := some 0 }
  | some _, some k =>
    if k + 1 < 256 then s.setMemPort { s.memPort with strobe := some (k + 1) } else s.wordFailed

/-- One clock of CLK, with no command at it (notes/assumptions/3.md). While RESET is asserted nothing counts (R133,
R185). -/
def State.clock (s : State) : State := if s.resetAsserted then s else s.clockDivider.clockWord

end Sys2Proof.Machine
end

