-- ==== Sys2Proof/Machine/Window.lean ====
section
/-! DEFINITION. The window select of a port: PARAM_WRITE, COMMAND_WRITE, INTSTAT_WRITE, INTEN_WRITE, WINDOW_WRITE, and
what each word reads (spec/03 sections 3.1, 3.2, 3.6). While RESET is asserted each cycle is held off at its port (R43,
R185). -/

namespace Sys2Proof.Machine

/-- The port answers the window select. -/
def State.answerWindow (s : State) (n : AgentId) (b : BusAnswer) : State :=
  s.setPort n { s.port n with windowAnswer := some b }

/-- A write to PARAMi by the window's state (R44). -/
def Port.writeParam (p : Port) (i : ParamId) (v : Word) : Port :=
  match p.window with
  | .idle | .done => { p with params := p.params.set i v }
  | .pending | .executing => { p with overrun := true }
  | .detaching => p

/-- A write to COMMAND by the window's state (R46). -/
def Port.writeCommand (p : Port) (v : Word) : Port :=
  match p.window with
  | .idle | .done => { p with code := v.extractLsb' 0 8, window := .pending, overrun := false }
  | .pending | .executing => { p with overrun := true }
  | .detaching => p

/-- The word k of the window as a read returns it (R44, R48, R49, R59). -/
def State.windowRead (s : State) (n : AgentId) (k : Fin 16) : Word :=
  let p := s.port n
  if h : k.val < 8 then p.params[k.val]
  else if k = 8 then place 0 p.code.toNat ||| place 8 p.window.code ||| placeBit 16 p.overrun
  else if k = 9 then p.status
  else if k = 10 then p.result0
  else if k = 11 then p.result1
  else if k = 12 then p.result2
  else if k = 13 then place 0 (s.profile n).status.toNat
  else if k = 14 then place 0 (s.profile n).enable.toNat
  else identWord n

/-- A write of v to the word k of the window: STATUS, RESULT0 to RESULT2 and IDENT ignore it (R44, R46, R48, R49). -/
def State.windowStore (s : State) (n : AgentId) (k : Fin 16) (v : Word) : State :=
  if h : k.val < 8 then s.setPort n ((s.port n).writeParam ⟨k.val, h⟩ v)
  else if k = 8 then s.setPort n ((s.port n).writeCommand v)
  else if k = 13 then s.clearCauses n v
  else if k = 14 then s.writeEnable n v
  else s

/-- The port's held-off window cycle, if any, is replaced by h. -/
def State.setHeldWindow (s : State) (n : AgentId) (h : Option WindowCycle) : State :=
  s.setPort n { s.port n with heldWindow := h }

/-- Port n is presented a window cycle: held off with the cycle left open while RESET is asserted, and otherwise
taken, as `take` says (R43, R185). -/
def State.presentWindow (s : State) (n : AgentId) (c : WindowCycle) (take : State → State) : State :=
  if s.resetAsserted then s.setHeldWindow n (some c) else take (s.setHeldWindow n none)

/-- The cycle of a write of v to the word k (R43). -/
def wordWrite (k : Fin 16) (v : Word) : WindowCycle where
  addr := BitVec.ofNat 24 (4 * k.val)
  be := 0xF
  write := true
  bothSelects := false
  data := v

/-- A window cycle that is taken. One that is no word access, or has both selects asserted, ends in a bus error and
changes nothing; a word access is answered as the word's rule gives (R43, R48, R49). -/
def State.windowCycle (s : State) (n : AgentId) (c : WindowCycle) : State :=
  if !c.isWord then s.answerWindow n (busErrorFor (if c.write then .dataWrite else .dataRead))
  else if c.write then (s.windowStore n c.word c.data).answerWindow n .acknowledge
  else s.answerWindow n (.word (s.windowRead n c.word))

/-- PARAM_WRITE (R44). -/
def execParamWrite (n : AgentId) (i : ParamId) (v : Word) (s : State) : Host.Outcome State Fault Refusal :=
  .next (s.presentWindow n (wordWrite (i.castLE (by decide)) v) fun t =>
    (t.setPort n ((t.port n).writeParam i v)).answerWindow n .acknowledge)

/-- COMMAND_WRITE (R46). -/
def execCommandWrite (n : AgentId) (v : Word) (s : State) : Host.Outcome State Fault Refusal :=
  .next (s.presentWindow n (wordWrite 8 v) fun t =>
    (t.setPort n ((t.port n).writeCommand v)).answerWindow n .acknowledge)

/-- INTSTAT_WRITE (R170), in every window state (R49). -/
def execIntstatWrite (n : AgentId) (v : Word) (s : State) : Host.Outcome State Fault Refusal :=
  .next (s.presentWindow n (wordWrite 13 v) fun t => (t.clearCauses n v).answerWindow n .acknowledge)

/-- INTEN_WRITE (R169), in every window state (R49). -/
def execIntenWrite (n : AgentId) (v : Word) (s : State) : Host.Outcome State Fault Refusal :=
  .next (s.presentWindow n (wordWrite 14 v) fun t => (t.writeEnable n v).answerWindow n .acknowledge)

/-- WINDOW_WRITE (R43, R48, R49): a window-select cycle as the bus carries it, presented now; or the one the port has
held off, taken as a new arrival once RESET is released (R185). -/
def execWindowWrite (n : AgentId) (c : WindowSelect) (s : State) : Host.Outcome State Fault Refusal :=
  match c, (s.port n).heldWindow with
  | .presented m, _ => .next (s.presentWindow n m fun t => t.windowCycle n m)
  | .heldOff, some m => .next (s.presentWindow n m fun t => t.windowCycle n m)
  | .heldOff, none => .next s

end Sys2Proof.Machine
end

