-- ==== Sys2Proof/Machine/Dispatch.lean ====
section
/-! DEFINITION. The meaning of every command: one arm for each row of spec/opcode_table.json. -/

namespace Sys2Proof.Machine

def exec (i : Instr) (s : State) : Host.Outcome State Fault Refusal :=
  match i with
  | .accessDecode n c => Sys2Proof.Machine.execAccessDecode n c s
  | .faultReport n => Sys2Proof.Machine.execFaultReport n s
  | .memoryGrant => Sys2Proof.Machine.execMemoryGrant s
  | .mack => Sys2Proof.Machine.execMack s
  | .merr m => Sys2Proof.Machine.execMerr m s
  | .acknowledgeTimeout => Sys2Proof.Machine.execAcknowledgeTimeout s
  | .lmTake => Sys2Proof.Machine.execLmTake s
  | .passStep => Sys2Proof.Machine.execPassStep s
  | .teardown => Sys2Proof.Machine.execTeardown s
  | .acquire => Sys2Proof.Machine.execAcquire s
  | .renew => Sys2Proof.Machine.execRenew s
  | .narrow => Sys2Proof.Machine.execNarrow s
  | .release => Sys2Proof.Machine.execRelease s
  | .query => Sys2Proof.Machine.execQuery s
  | .find => Sys2Proof.Machine.execFind s
  | .collect => Sys2Proof.Machine.execCollect s
  | .cancel => Sys2Proof.Machine.execCancel s
  | .offer => Sys2Proof.Machine.execOffer s
  | .accept => Sys2Proof.Machine.execAccept s
  | .decline => Sys2Proof.Machine.execDecline s
  | .fault => Sys2Proof.Machine.execFault s
  | .profile => Sys2Proof.Machine.execProfile s
  | .revoke => Sys2Proof.Machine.execRevoke s
  | .detach => Sys2Proof.Machine.execDetach s
  | .setProfile => Sys2Proof.Machine.execSetProfile s
  | .lockProfile => Sys2Proof.Machine.execLockProfile s
  | .setGuard => Sys2Proof.Machine.execSetGuard s
  | .setTimebase => Sys2Proof.Machine.execSetTimebase s
  | .timebaseStop => Sys2Proof.Machine.execTimebaseStop s
  | .timebaseStart => Sys2Proof.Machine.execTimebaseStart s
  | .setPhases => Sys2Proof.Machine.execSetPhases s
  | .scrubHold => Sys2Proof.Machine.execScrubHold s
  | .scrubGo => Sys2Proof.Machine.execScrubGo s
  | .retry => Sys2Proof.Machine.execRetry s
  | .forget => Sys2Proof.Machine.execForget s
  | .paramWrite n k v => Sys2Proof.Machine.execParamWrite n k v s
  | .intstatWrite n v => Sys2Proof.Machine.execIntstatWrite n v s
  | .intenWrite n v => Sys2Proof.Machine.execIntenWrite n v s
  | .windowWrite n c => Sys2Proof.Machine.execWindowWrite n c s
  | .tick c => Sys2Proof.Machine.execTick c s
  | .expiry => Sys2Proof.Machine.execExpiry s
  | .waitTimeout => Sys2Proof.Machine.execWaitTimeout s
  | .phaseAdvance => Sys2Proof.Machine.execPhaseAdvance s
  | .opening => Sys2Proof.Machine.execOpening s
  | .noneClaim => Sys2Proof.Machine.execNoneClaim s
  | .agrstAssert n => Sys2Proof.Machine.execAgrstAssert n s
  | .agrstRelease n => Sys2Proof.Machine.execAgrstRelease n s
  | .resetAssert => Sys2Proof.Machine.execResetAssert s
  | .resetRelease order => Sys2Proof.Machine.execResetRelease order s
  | .commandWrite n v => Sys2Proof.Machine.execCommandWrite n v s
  | .badCmd => Sys2Proof.Machine.execBadCmd s

end Sys2Proof.Machine
end

