-- ==== Sys2Proof/Machine/Step.lean ====
section
/-! DEFINITION. One step of the block: the command at the front of its queue, or one device clock on an empty queue. -/

namespace Sys2Proof.Machine

/-- The command at the front of the queue runs on the state with the queue's rest (notes/assumptions/1.md); on an empty
queue one clock of CLK passes (notes/assumptions/3.md). -/
def step (s : State) : Host.Outcome State Fault Refusal :=
  match s.pending with
  | c :: rest => exec c { s with pending := rest }
  | [] => .next s.clock

/-- The command that the table's bits w spell, put at the front of the queue; s where they spell none
(notes/assumptions/19.md). -/
def State.withFetchWord (s : State) (nbits w : Nat) : State :=
  match decodeTableWord nbits w with
  | some c => { s with pending := c :: s.pending }
  | none => s

end Sys2Proof.Machine
end

