-- ==== Sys2Proof/Safety.lean ====
section
/-! DEFINITION. The terms that claims use: when a command is executing and admitted, what an answered window is, and the
laws that the spec says the part keeps. -/

namespace Sys2Proof.Machine

/-! ## Commands in execution -/

/-- The command of the block that completes a command of the windows. -/
def Command.instr : Command → Instr
  | .acquire => .acquire
  | .renew => .renew
  | .narrow => .narrow
  | .release => .release
  | .query => .query
  | .find => .find
  | .collect => .collect
  | .cancel => .cancel
  | .offer => .offer
  | .accept => .accept
  | .decline => .decline
  | .fault => .fault
  | .profile => .profile
  | .revoke => .revoke
  | .detach => .detach
  | .setProfile => .setProfile
  | .lockProfile => .lockProfile
  | .setGuard => .setGuard
  | .setTimebase => .setTimebase
  | .timebaseStop => .timebaseStop
  | .timebaseStart => .timebaseStart
  | .setPhases => .setPhases
  | .scrubHold => .scrubHold
  | .scrubGo => .scrubGo
  | .retry => .retry
  | .forget => .forget

/-- The Lease Manager holds command c of window n with the parameters ps, and the window is EXECUTING (R50). -/
def State.Executes (s : State) (n : AgentId) (c : Command) (ps : Vector Word 8) : Prop :=
  s.manager.job = some (.command n c.code ps) ∧ (s.port n).window = .executing

/-- Entry i covers an address for agent n with lease l: ACTIVE, owned by n, its range containing the address (R24). -/
def State.Covers (s : State) (n : AgentId) (a : Addr) (i : EntryId) (l : Lease) : Prop :=
  (s.entry i).body.activeOf n = some l ∧ l.range.contains a = true

/-- Agent n passes R53's checks for c: agent 0 alone issues supervisor commands, and a disabled agent the four that are
open to it. -/
def State.Admits (s : State) (n : AgentId) (c : Command) : Prop :=
  (c.supervisor = true → n = 0) ∧ ((s.profile n).enabled = true ∨ c.openToDisabled = true)

/-- Command c of window n is in hand with the parameters ps, and passes the checks of R53. -/
def State.Runs (s : State) (n : AgentId) (c : Command) (ps : Vector Word 8) : Prop :=
  s.Executes n c ps ∧ s.Admits n c

/-- The completion of window n's command has freed the Lease Manager and been answered: DONE, STATUS, RESULT0 to RESULT2
and the DONE cause (R52). -/
def State.answered (s : State) (n : AgentId) (code : BitVec 8) (r : Reply) : State :=
  ((s.setJob none).setPort n
    { s.port n with
      window := .done
      status := place 0 r.status.code.toNat ||| place 8 code.toNat
      result0 := r.r0
      result1 := r.r1
      result2 := r.r2 }).raise .done n

/-! ## What a request asks, and what it meets -/

/-- R61, R63: the request is the one that the parameters ps spell. Base is bits 23:0 of PARAM0 and Order bits 4:0 of
PARAM1; PARAM2 has R, W and X at bits 0 to 2, Floor at bit 4 and Share at bits 9:8; PARAM3 has the term mode at bits 1:0
and Disposition at bit 4; PARAM4 has Term at bits 15:0 and Warn at bits 31:16; PARAM5 has the phase at bits 1:0, given
where bit 7 is set. -/
def Request.ReadFrom (q : Request) (ps : Vector Word 8) : Prop :=
  q.range.base.toNat = field ps[0] 0 24 ∧ q.range.order = field ps[1] 0 5 ∧
    q.rights.r = bit ps[2] 0 ∧ q.rights.w = bit ps[2] 1 ∧ q.rights.x = bit ps[2] 2 ∧
    (q.floor = .priv ↔ bit ps[2] 4 = true) ∧
    (q.share = .exclusive ∧ field ps[2] 8 2 = 0 ∨ q.share = .sharedRead ∧ field ps[2] 8 2 = 1 ∨
      q.share = .shared ∧ field ps[2] 8 2 = 2) ∧
    (q.life = .timed .fixed (field ps[4] 0 16) (field ps[4] 16 16) ∧ field ps[3] 0 2 = 0 ∨
      q.life = .timed .activity (field ps[4] 0 16) (field ps[4] 16 16) ∧ field ps[3] 0 2 = 1 ∨
      q.life = .pinned ∧ field ps[3] 0 2 = 2) ∧
    (q.disposition = .scrub ↔ bit ps[3] 4 = true) ∧
    (q.phase = none ∧ bit ps[5] 7 = false ∨
      ∃ p, q.phase = some p ∧ bit ps[5] 7 = true ∧ p.val = field ps[5] 0 2)

/-- Entry i is the lowest-numbered FREE entry (R7). -/
def State.LowestFree (s : State) (i : EntryId) : Prop :=
  (s.entry i).body = .free ∧ ∀ j < i, (s.entry j).body ≠ .free

/-- Wait entry w is the lowest-numbered FREE one (R83). -/
def State.LowestFreeWait (s : State) (w : WaitId) : Prop :=
  (s.wait w).body = .free ∧ ∀ v < w, (s.wait v).body ≠ .free

/-- R13, R14: the request is compatible with every entry that is not FREE. -/
def State.NoConflict (s : State) (q : Request) : Prop :=
  ∀ i l, (s.entry i).body.lease? = some l →
    compatible q.range q.share q.phase l.range l.share l.phase = true

/-- R69: the range overlaps no WAITING request of another agent. -/
def State.NoneWaits (s : State) (n : AgentId) (r : Range) : Prop :=
  ∀ w m q d, (s.wait w).body = .waiting m q d → m ≠ n → q.range.overlaps r = false

/-- R66: agent 0 is exempt, and no enabled guard span overlaps another agent's range. -/
def State.Unguarded (s : State) (n : AgentId) (r : Range) : Prop :=
  n = 0 ∨ ∀ g, (s.guard g).enabled = true → (s.guard g).range.overlaps r = false

/-- R67: one more lease over the range stays within both quotas. -/
def State.WithinQuota (s : State) (n : AgentId) (r : Range) : Prop :=
  s.leasesHeld n + 1 ≤ (s.profile n).leaseQuota ∧ s.pagesHeld n + 2 ^ (r.order - 12) ≤ (s.profile n).pageQuota

/-- R68: the range overlaps no ACTIVE entry of the agent. -/
def State.NoSelfOverlap (s : State) (n : AgentId) (r : Range) : Prop :=
  ∀ i l, (s.entry i).body.activeOf n = some l → l.range.overlaps r = false

/-! ## The laws of the Lease Table -/

/-- The fields of a lease are in the ranges of R1, and consistent as R5, R11, R12 and R64 say. -/
def Lease.Sound (l : Lease) : Prop :=
  l.range.valid = true ∧ l.rights.isEmpty = false ∧ (l.share = .sharedRead → l.rights.w = false) ∧
    (l.life = .pinned → l.slot = none) ∧ (l.disposition = .scrub → l.share = .exclusive ∧ l.slot = none)

/-- Warn is less than Term, Term has 16 bits, and Remaining is at most Term; Warned is yes exactly when Warn is not 0
and Remaining is at or below it (R1, R64, R140, R142). -/
def Countdown.Sound (c : Countdown) : Prop :=
  c.warn < c.term ∧ c.term < 2 ^ 16 ∧ c.remaining ≤ c.term ∧ (c.warned = true ↔ c.warn ≠ 0 ∧ c.remaining ≤ c.warn)

/-- Every entry that is not FREE holds a sound lease, and every request kept by the Wait List is valid (R1, R5, R64). -/
def State.FieldLaw (s : State) : Prop :=
  (∀ i, ∀ l, (s.entry i).body.lease? = some l → l.Sound) ∧
    ∀ w, match (s.wait w).body with
      | .waiting _ q _ => q.valid = true
      | .resolved _ q _ => q.valid = true
      | .free => True

/-- R140, R142: the countdown of every entry that is not FREE is sound, and an ACTIVE entry that counts has a
Remaining of at least 1; a request that waits has a Warn less than its Term, both of 16 bits, and a deadline, if
present, from 1 to 65535 (R82, R87). -/
def State.CountdownLaw (s : State) : Prop :=
  (∀ i l m c, (s.entry i).body.lease? = some l → l.life = .timed m c → c.Sound) ∧
  (∀ i o l t m c, (s.entry i).body = .active o l t → l.life = .timed m c → 1 ≤ c.remaining) ∧
  ∀ w n q d, (s.wait w).body = .waiting n q d →
    (∀ m term warn, q.life = .timed m term warn → warn < term ∧ term < 2 ^ 16) ∧
      ∀ k, d = some k → 1 ≤ k ∧ k < 2 ^ 16

/-- R15: any two entries that are not FREE are compatible. -/
def State.CompatibilityLaw (s : State) : Prop :=
  ∀ i j, i ≠ j → ∀ l k, (s.entry i).body.lease? = some l → (s.entry j).body.lease? = some k →
    compatible l.range l.share l.phase k.range k.share k.phase = true

/-- R68, R71, R127: no agent owns two overlapping ACTIVE entries. -/
def State.SelfOverlapLaw (s : State) : Prop :=
  ∀ n i j, i ≠ j → ∀ l k, (s.entry i).body.activeOf n = some l → (s.entry j).body.activeOf n = some k →
    l.range.overlaps k.range = false

/-- R160: no agent holds more ACTIVE entries or pages than its quotas. -/
def State.QuotaLaw (s : State) : Prop :=
  ∀ n, s.leasesHeld n ≤ (s.profile n).leaseQuota ∧ s.pagesHeld n ≤ (s.profile n).pageQuota

/-- R165: no ACTIVE or RETIRING entry owned by an agent other than agent 0 overlaps an enabled guard span. -/
def State.GuardLaw (s : State) : Prop :=
  ∀ i g, (s.guard g).enabled = true → ∀ o l, (s.entry i).body.owner? = some o → o ≠ 0 →
    (s.entry i).body.lease? = some l → (s.guard g).range.overlaps l.range = false

/-- R11, R123: an ACTIVE PINNED entry is agent 0's and not offered, an offer names an agent other than the owner, and a
PINNED request that waits is agent 0's. -/
def State.OwnerLaw (s : State) : Prop :=
  (∀ i, match (s.entry i).body with
    | .active o l t => (l.life = .pinned → o = 0 ∧ t = none) ∧ t ≠ some o
    | _ => True) ∧
  ∀ w, match (s.wait w).body with
    | .waiting n q _ => q.life = .pinned → n = 0
    | _ => True

/-! ## The laws of the Scrub Engine -/

/-- The entry is RETIRING with Drain no and disposition SCRUB. -/
def EntryBody.awaitsScrub : EntryBody → Bool
  | .retiring _ l d => l.disposition == .scrub && !d
  | .free | .active .. | .faulted _ => false

/-- R109, R5: the scrub queue holds exactly the drained RETIRING entries of disposition SCRUB, each once; a FAULTED
entry has disposition SCRUB; a KEEP entry is never RETIRING with Drain no (R108). -/
def State.ScrubQueueLaw (s : State) : Prop :=
  s.scrub.queue.Nodup ∧ (∀ i, i ∈ s.scrub.queue ↔ (s.entry i).body.awaitsScrub = true) ∧
    ∀ i, match (s.entry i).body with
      | .faulted l => l.disposition = .scrub
      | .retiring _ l d => l.disposition = .keep → d = true
      | _ => True

/-- The chunk outstanding at the Memory Port: requested, or being written (R110). -/
def MemoryPort.outstanding (m : MemoryPort) : List Chunk :=
  (match m.chunk with | some c => [c] | none => []) ++
    (match m.grant with | some (.chunk c _) => [c] | _ => [])

/-- The chunk that the engine has to have outstanding next: chunk number progress of the head (R110). -/
def State.headChunk (s : State) : Option Chunk :=
  match s.scrub.queue with
  | [] => none
  | i :: _ => (s.entry i).body.lease?.map fun l => { base := l.range.base, number := s.scrub.progress }

/-- R110, R113, R115, R116: IDLE has an empty queue; RUNNING and SUSPENDING have exactly one chunk of the head
outstanding, IDLE and SUSPENDED none; a hold is pending only in RUNNING with the counter below 4; the head has chunks
left. -/
def State.EngineLaw (s : State) : Prop :=
  s.scrub.sinceGo ≤ 4 ∧
    (s.scrub.holdPending = true → s.scrub.mode = .running ∧ s.scrub.sinceGo < 4) ∧
    (match s.scrub.mode with
      | .idle => s.scrub.queue = [] ∧ s.memPort.outstanding = []
      | .suspended => s.memPort.outstanding = []
      | .running | .suspending => ∃ c, s.headChunk = some c ∧ s.memPort.outstanding = [c]) ∧
    (match s.scrub.queue with
      | [] => True
      | i :: _ => match (s.entry i).body.lease? with
        | some l => s.scrub.progress < l.range.chunks
        | none => True)

/-! ## The laws of the Wait List, the Lease Manager, the ports and the Memory Port -/

/-- R83, R85: the waiting order holds each WAITING entry once and no other, and no agent has more than 4 wait entries.
-/
def State.WaitLaw (s : State) : Prop :=
  s.waits.order.Nodup ∧ (∀ w, w ∈ s.waits.order ↔ (s.wait w).body.isWaiting = true) ∧ ∀ n, s.waitsHeld n ≤ 4

/-- R45, R50, R51, R172, R178: the job list holds each agent at most once; a listed or taken teardown's window is
DETACHING; the window of the command in hand is EXECUTING, or DETACHING with its teardown still listed, and no other
window is EXECUTING; a window stays DETACHING only while its teardown is to come or its AGRSTn is asserted; and an
asserted AGRSTn has a DETACHING window, unless RESET is asserted. -/
def State.ManagerLaw (s : State) : Prop :=
  s.manager.list.Nodup ∧
    (∀ n ∈ s.manager.list, (s.port n).window = .detaching ∧ s.manager.job ≠ some (.teardown n)) ∧
    (∀ n, s.manager.job = some (.teardown n) → (s.port n).window = .detaching) ∧
    (∀ n c ps, s.manager.job = some (.command n c ps) →
      (s.port n).window = .executing ∨ (s.port n).window = .detaching ∧ n ∈ s.manager.list) ∧
    (∀ n, (s.port n).window = .executing → ∃ c ps, s.manager.job = some (.command n c ps)) ∧
    (∀ n, (s.port n).window = .detaching →
      n ∈ s.manager.list ∨ s.manager.job = some (.teardown n) ∨ (s.port n).agrst = true) ∧
    ∀ n, (s.port n).agrst = true → s.resetAsserted = false → (s.port n).window = .detaching

/-- Agent n's forwarded accesses at the Memory Port: waiting, or granted (R180). -/
def MemoryPort.forwardedOf (m : MemoryPort) (n : AgentId) : List Access :=
  (match m.requests[n] with | some a => [a] | none => []) ++
    (match m.grant with | some (.agent k a) => if k = n then [a] else [] | _ => [])

/-- R32, R27: each port has at most one access at the Memory Port, its marker records exactly that one, and its
address is a multiple of its size. -/
def State.MarkerLaw (s : State) : Prop :=
  ∀ n, (s.memPort.forwardedOf n).map (·.info) = ((s.port n).marker.map (·.info)).toList ∧
    ∀ m, (s.port n).marker = some m → m.info.addr.toNat % m.info.size.bytes = 0

/-- R4, R36, R107: while Drain of a RETIRING entry is yes, its former owner has an access in flight inside the range. -/
def State.DrainLaw (s : State) : Prop :=
  ∀ i, match (s.entry i).body with
    | .retiring o l d => d = true → ∃ n, o = some n ∧ s.inFlight n l.range = true
    | _ => True

/-- R180, R181, R182, R184: the scrub credit is at most 16, and 0 while no chunk request waits; a chunk's word is 0 to
63; a word is ended before 256 clocks have been counted, MSTB is asserted under a grant alone, and through all of an
agent's grant; and while something waits and no grant is current, a grant decision is still to be taken. -/
def State.MemoryPortLaw (s : State) : Prop :=
  s.memPort.credit ≤ 16 ∧ (s.memPort.chunk = none → s.memPort.credit = 0) ∧
    (match s.memPort.grant with | some (.chunk _ k) => k ≤ 63 | _ => True) ∧
    (∀ k, s.memPort.strobe = some k → k < 256) ∧ (s.memPort.grant = none → s.memPort.strobe = none) ∧
    (∀ n a, s.memPort.grant = some (.agent n a) → s.memPort.strobe ≠ none) ∧
    (s.memPort.grant = none → (s.memPort.agentWaiting = true ∨ s.memPort.chunk ≠ none) → s.memPort.due ≠ .none)

/-- The contents of the array are in canonical form. -/
def State.MemoryLaw (s : State) : Prop := s.sram.wf = true

/-! ## The laws of time and of causes -/

/-- The phase in force once every sequencer claim on its way has been taken (R150). -/
def LeaseTable.comingPhase (t : LeaseTable) : Option Phase :=
  match t.sequencerClaims.getLast? with
  | some (.opening p) => some p
  | some .none => none
  | none => t.inForce

/-- R147, R150: NONE exactly when no ticks are left, and then every active length is 0; a current phase has from 1 to
its active length of ticks left; the phase in force follows the current phase. -/
def State.SequencerLaw (s : State) : Prop :=
  (match s.phases.current with
    | none => s.phases.ticksLeft = 0 ∧ ∀ p : Phase, s.phases.active[p] = 0
    | some p => 1 ≤ s.phases.ticksLeft ∧ s.phases.ticksLeft ≤ s.phases.active[p]) ∧
    (∀ p : Phase, s.phases.active[p] ≤ 4095 ∧ s.phases.pending[p] ≤ 4095) ∧
    s.leases.comingPhase = s.phases.current

/-- R133: P, D and the divider count are in their ranges. -/
def State.TimebaseLaw (s : State) : Prop :=
  s.timebase.p ≤ 15 ∧ s.timebase.d ≤ 4095 ∧ s.timebase.count < s.timebase.period

/-- R42, R120: FAULT is set at an agent whose latch is valid, SCRUB_FAIL is set at agent 0 while an entry is FAULTED,
and SCRUB_FAIL is never set at another agent. -/
def State.CauseLaw (s : State) : Prop :=
  (∀ n, (s.profile n).latch.isSome = true → Cause.fault.isIn (s.profile n).status = true) ∧
    (s.anyFaulted = true → Cause.scrubFail.isIn (s.profile 0).status = true) ∧
    ∀ n, n ≠ 0 → Cause.scrubFail.isIn (s.profile n).status = false

/-- R53, R161: agent 0 is enabled, and every profile's quotas are within 64 leases and 4096 pages (R159). -/
def State.ProfileLaw (s : State) : Prop :=
  (s.profile 0).enabled = true ∧ ∀ n, (s.profile n).leaseQuota ≤ 64 ∧ (s.profile n).pageQuota ≤ 4096

end Sys2Proof.Machine
end

