-- ==== Sys2Proof/Certificates/Slice0/Obligations.lean ====
section
/-! DEFINITION. The statements for the provers, in the spec's order: the step, reset and the lines, the windows, the
access check, the memory port, the Lease Manager, the commands, time, and the laws that every step keeps. -/

open Sys2Proof Sys2Proof.Machine

/-! ## The step -/

/-- The command at the front of the queue runs on the state with the queue's rest (notes/assumptions/1.md). -/
def Obligations.StepRunsFrontCommand : Prop :=
  ∀ (s : State) (c : Instr) (rest : List Instr),
    step { s with pending := c :: rest } = exec c { s with pending := rest }

/-- R133, R134, R182, with an empty queue as one clock (notes/assumptions/3.md): first the divider, then the word in
progress, whose count starts at 0 when MSTB is asserted and which fails at 256. Under a grant with MSTB deasserted the
clock begins the chunk's next word (notes/assumptions/20.md). While RESET is asserted nothing counts. -/
def Obligations.EmptyQueueIsOneClock : Prop :=
  ∀ s : State, s.pending = [] →
    (s.resetAsserted = true → step s = .next s) ∧
    (s.resetAsserted = false → ∃ d : State,
      (s.timebase.running = false → d = s) ∧
      (s.timebase.running = true → s.timebase.count + 1 < (s.timebase.p + 1) * (s.timebase.d + 1) →
        d = s.setTimebase { s.timebase with count := s.timebase.count + 1 }) ∧
      (s.timebase.running = true → (s.timebase.p + 1) * (s.timebase.d + 1) ≤ s.timebase.count + 1 →
        d = { s with
          timebase := { s.timebase with count := 0 }
          leases := { s.leases with ticksDue := s.leases.ticksDue + 1 }
          waits := { s.waits with ticksDue := s.waits.ticksDue + 1 }
          phases := { s.phases with ticksDue := s.phases.ticksDue + 1 } }) ∧
      (s.memPort.grant = none → step s = .next d) ∧
      (s.memPort.grant ≠ none → s.memPort.strobe = none →
        step s = .next (d.setMemPort { s.memPort with strobe := some 0 })) ∧
      ∀ k, s.memPort.grant ≠ none → s.memPort.strobe = some k →
        (k + 1 < 256 → step s = .next (d.setMemPort { s.memPort with strobe := some (k + 1) })) ∧
        (256 ≤ k + 1 → step s = exec .acknowledgeTimeout d))

/-! ## Device reset and the lines -/

/-- R19, R44, R48, R55, R86, R113, R133, R147, R159, R165, R180: the values after device reset. -/
def Obligations.ResetHasTheSpecsValues : Prop :=
  State.reset.entry 0 =
      { gen := 0
        body := .active 0
          { range := { base := 0, order := 24 }, rights := { r := true, w := true, x := true }, floor := .any,
            share := .exclusive, life := .pinned, disposition := .keep, slot := none } none } ∧
    (∀ i, i ≠ 0 → State.reset.entry i = { gen := 0, body := .free }) ∧
    State.reset.leases.inForce = none ∧
    (∀ w, State.reset.wait w = { gen := 0, body := .free }) ∧ State.reset.waits.order = [] ∧
    State.reset.manager = { job := none, list := [], reexamine := false, pointer := 5 } ∧
    State.reset.profile 0 =
      { enabled := true, leaseQuota := 64, pageQuota := 4096, locked := false, status := 0, enable := 0,
        latch := none } ∧
    (∀ n, n ≠ 0 → State.reset.profile n =
      { enabled := false, leaseQuota := 0, pageQuota := 0, locked := false, status := 0, enable := 0,
        latch := none }) ∧
    (∀ g, State.reset.guard g = { enabled := false, range := { base := 0, order := 12 }, locked := false }) ∧
    State.reset.scrub = { mode := .idle, queue := [], progress := 0, sinceGo := 4, holdPending := false } ∧
    State.reset.timebase = { p := 7, d := 999, running := true, count := 0 } ∧
    State.reset.phases.current = none ∧ State.reset.phases.ticksLeft = 0 ∧
    State.reset.phases.pendingFlag = false ∧
    (∀ p : Phase, State.reset.phases.active[p] = 0 ∧ State.reset.phases.pending[p] = 0) ∧
    (∀ n : AgentId, State.reset.memPort.requests[n] = none) ∧ State.reset.memPort.chunk = none ∧
    State.reset.memPort.grant = none ∧ State.reset.memPort.credit = 0 ∧ State.reset.memPort.pointer = 5 ∧
    ∀ n, (State.reset.port n).window = .idle ∧ (State.reset.port n).overrun = false ∧
      (State.reset.port n).code = 0 ∧ (State.reset.port n).status = 0 ∧ (State.reset.port n).result0 = 0 ∧
      (State.reset.port n).result1 = 0 ∧ (State.reset.port n).result2 = 0 ∧ (State.reset.port n).marker = none ∧
      ∀ i : ParamId, (State.reset.port n).params[i] = 0

/-- Every law of Safety.lean holds of the machine right after reset, whose AGRSTn lines the model takes as released
(notes/assumptions/12.md). -/
def Obligations.LawsHoldAtReset : Prop :=
  State.reset.FieldLaw ∧ State.reset.CountdownLaw ∧ State.reset.CompatibilityLaw ∧ State.reset.SelfOverlapLaw ∧
    State.reset.QuotaLaw ∧ State.reset.GuardLaw ∧ State.reset.OwnerLaw ∧ State.reset.ScrubQueueLaw ∧
    State.reset.EngineLaw ∧ State.reset.WaitLaw ∧ State.reset.ManagerLaw ∧ State.reset.MarkerLaw ∧
    State.reset.DrainLaw ∧ State.reset.MemoryPortLaw ∧ State.reset.MemoryLaw ∧ State.reset.SequencerLaw ∧
    State.reset.TimebaseLaw ∧ State.reset.CauseLaw ∧ State.reset.ProfileLaw

/-- R185: every block takes its reset values; a port keeps its AGRSTn line and the cycles its agent leaves open, one
held off at either select or a forwarded access not yet answered, while a discarded access leaves none; the array
keeps every byte outside the write word in progress; no IRQn is asserted. The records of the open cycles are the
model's (notes/assumptions/14.md). -/
def Obligations.ResetAssertRestoresEveryBlock : Prop :=
  ∀ s : State, ∃ t, exec .resetAssert s = .next t ∧
    t.leases = State.reset.leases ∧ t.waits = State.reset.waits ∧ t.manager = State.reset.manager ∧
    t.profiles = State.reset.profiles ∧ t.guards = State.reset.guards ∧ t.scrub = State.reset.scrub ∧
    t.timebase = State.reset.timebase ∧ t.phases = State.reset.phases ∧ t.memPort = State.reset.memPort ∧
    t.resetAsserted = true ∧ t.pending = s.pending ∧ (∀ n, t.irqAsserted n = false) ∧
    (∀ n, t.port n =
      { State.reset.port n with
        agrst := (s.port n).agrst, held := (t.port n).held, heldWindow := (s.port n).heldWindow }) ∧
    (∀ n c, (s.port n).held = some c → (t.port n).held = some c) ∧
    (∀ n, (s.port n).held = none → (s.port n).marker = none → (t.port n).held = none) ∧
    (∀ n m, (s.port n).held = none → (s.port n).marker = some m →
      (m.discard = true → (t.port n).held = none) ∧
      ∀ a : Access, m.discard = false →
        (s.memPort.requests[n] = some a ∨ s.memPort.requests[n] = none ∧ s.memPort.grant = some (.agent n a)) →
        a.info.addr.toNat % a.info.size.bytes = 0 → ∃ c, (t.port n).held = some c ∧ accessOf c = some a) ∧
    ∀ b : Nat,
      (∀ n a, s.memPort.grant = some (.agent n a) → a.info.kind = .dataWrite →
        b < a.info.addr.toNat / 4 * 4 ∨ a.info.addr.toNat / 4 * 4 + 3 < b) →
      (∀ c k, s.memPort.grant = some (.chunk c k) → s.memPort.strobe ≠ none →
        b < 4 * (c.wordLine k).toNat ∨ 4 * (c.wordLine k).toNat + 3 < b) →
      t.sramByte b = s.sramByte b

/-- R172, R185: at the release of RESET each port whose AGRSTn is asserted becomes DETACHING with a teardown listed, in
the order of the operand (notes/assumptions/13.md); every other port, and every other block, stands as it was. -/
def Obligations.ResetReleaseReadsEachLine : Prop :=
  ∀ (s : State) (order : List AgentId), s.resetAsserted = true → order.Nodup → s.manager.list = [] →
    (∀ n, (s.port n).window = .idle ∧ (s.port n).marker = none) →
    ∃ t, exec (.resetRelease order) s = .next t ∧ t.resetAsserted = false ∧
      t.manager =
        { s.manager with
          list := (order ++ allAgents.filter fun n => !order.contains n).filter fun n => (s.port n).agrst } ∧
      (∀ n, t.port n =
        if (s.port n).agrst = true then { s.port n with window := .detaching } else s.port n) ∧
      t.leases = s.leases ∧ t.waits = s.waits ∧ t.profiles = s.profiles ∧ t.guards = s.guards ∧ t.scrub = s.scrub ∧
      t.timebase = s.timebase ∧ t.phases = s.phases ∧ t.memPort = s.memPort ∧ t.sram = s.sram ∧
      t.freeIndex = s.freeIndex ∧ t.pending = s.pending

/-- R172, R174, R175, R178, R33: an assertion of AGRSTn is a detach event, and at a DETACHING window, or while RESET is
asserted, it changes the line alone. A release is recorded, and a DETACHING window with no teardown to come becomes
IDLE. A line that does not change brings nothing. What the lines do during RESET is DEDUCED
(notes/assumptions/17.md); that a cycle held off behind the marker stays held off is the model's reading of R174 (DESIGN
CHOICE, notes/assumptions/27.md). -/
def Obligations.ResetLinesOfTheAgents : Prop :=
  ∀ (s : State) (n : AgentId),
    ((s.port n).agrst = true → exec (.agrstAssert n) s = .next s) ∧
    ((s.port n).agrst = false → exec (.agrstRelease n) s = .next s) ∧
    ((s.port n).agrst = false →
      (s.resetAsserted = true ∨ (s.port n).window = .detaching →
        exec (.agrstAssert n) s = .next (s.setPort n { s.port n with agrst := true })) ∧
      (s.resetAsserted = false → (s.port n).window ≠ .detaching →
        exec (.agrstAssert n) s = .next
          ((s.setPort n
            { s.port n with
              agrst := true
              window := .detaching
              marker := (s.port n).marker.map fun m => { m with discard := true }
              memAnswer :=
                ((s.port n).marker.map fun m =>
                  BusAnswer.busError (if m.info.kind = .dataWrite then none else some 0)).or
                  (s.port n).memAnswer }).setJobList (s.manager.list ++ [n])))) ∧
    ((s.port n).agrst = true →
      ((s.port n).window = .detaching → n ∉ s.manager.list → s.manager.job ≠ some (.teardown n) →
        exec (.agrstRelease n) s = .next (s.setPort n { s.port n with agrst := false, window := .idle })) ∧
      ((s.port n).window ≠ .detaching ∨ n ∈ s.manager.list ∨ s.manager.job = some (.teardown n) →
        exec (.agrstRelease n) s = .next (s.setPort n { s.port n with agrst := false })))

/-! ## The command windows -/

/-- R44, R46, R47: a write to PARAMi or to COMMAND by the window's state. The cycle is answered, so that the port holds
none off (the record of it: notes/assumptions/17.md). -/
def Obligations.ParameterAndCommandWrites : Prop :=
  ∀ (s : State) (n : AgentId) (i : ParamId) (v : Word), s.resetAsserted = false →
    ((s.port n).window = .idle ∨ (s.port n).window = .done →
      exec (.paramWrite n i v) s = .next (s.setPort n
        { s.port n with
          params := (s.port n).params.set i v, heldWindow := none, windowAnswer := some .acknowledge }) ∧
      exec (.commandWrite n v) s = .next (s.setPort n
        { s.port n with
          code := v.extractLsb' 0 8, window := .pending, overrun := false, heldWindow := none
          windowAnswer := some .acknowledge })) ∧
    ((s.port n).window = .pending ∨ (s.port n).window = .executing →
      exec (.paramWrite n i v) s = .next (s.setPort n
        { s.port n with overrun := true, heldWindow := none, windowAnswer := some .acknowledge }) ∧
      exec (.commandWrite n v) s = .next (s.setPort n
        { s.port n with overrun := true, heldWindow := none, windowAnswer := some .acknowledge })) ∧
    ((s.port n).window = .detaching →
      exec (.paramWrite n i v) s = .next (s.setPort n
        { s.port n with heldWindow := none, windowAnswer := some .acknowledge }) ∧
      exec (.commandWrite n v) s = .next (s.setPort n
        { s.port n with heldWindow := none, windowAnswer := some .acknowledge }))

/-- R43, R44, R48, R49, R59, R185: a window cycle that is no word access is a bus error and changes nothing else; a
read returns the word and changes nothing else; writes to STATUS, RESULT0 to RESULT2 and IDENT are ignored; a write to
a word with a row of its own is that row. While RESET is asserted each cycle is held off, and once it is released a
held-off one is taken as a new arrival. The port's record of it is the model's (notes/assumptions/17.md). -/
def Obligations.WindowCyclesByOffset : Prop :=
  ∀ (s : State) (n : AgentId) (c : WindowCycle),
    (s.resetAsserted = true →
      exec (.windowWrite n (.presented c)) s = .next (s.setPort n { s.port n with heldWindow := some c }) ∧
      exec (.windowWrite n .heldOff) s = .next s ∧
      ∀ (v : Word) (k : Nat) (e : Instr),
        ((∃ i : ParamId, e = .paramWrite n i v ∧ k = i.val) ∨ e = .commandWrite n v ∧ k = 8 ∨
          e = .intstatWrite n v ∧ k = 13 ∨ e = .intenWrite n v ∧ k = 14) →
        ∃ w : WindowCycle, exec e s = .next (s.setPort n { s.port n with heldWindow := some w }) ∧
          w.addr.toNat = 4 * k ∧ w.be = 0xF ∧ w.write = true ∧ w.bothSelects = false ∧ w.data = v) ∧
    ((s.port n).heldWindow = none → exec (.windowWrite n .heldOff) s = .next s) ∧
    (s.resetAsserted = false → (s.port n).heldWindow = some c →
      exec (.windowWrite n .heldOff) s = exec (.windowWrite n (.presented c)) s) ∧
    (s.resetAsserted = false → (c.be ≠ 0xF ∨ c.addr.toNat % 4 ≠ 0 ∨ c.bothSelects = true) →
      exec (.windowWrite n (.presented c)) s = .next (s.setPort n
        { s.port n with
          heldWindow := none, windowAnswer := some (.busError (if c.write = true then none else some 0)) })) ∧
    (s.resetAsserted = false → c.be = 0xF → c.addr.toNat % 4 = 0 → c.bothSelects = false →
      (c.write = true →
        (9 ≤ c.word.val ∧ c.word.val ≤ 12 ∨ c.word.val = 15 →
          exec (.windowWrite n (.presented c)) s = .next (s.setPort n
            { s.port n with heldWindow := none, windowAnswer := some .acknowledge })) ∧
        (∀ i : ParamId, c.word.val = i.val →
          exec (.windowWrite n (.presented c)) s = exec (.paramWrite n i c.data) s) ∧
        (c.word.val = 8 → exec (.windowWrite n (.presented c)) s = exec (.commandWrite n c.data) s) ∧
        (c.word.val = 13 → exec (.windowWrite n (.presented c)) s = exec (.intstatWrite n c.data) s) ∧
        (c.word.val = 14 → exec (.windowWrite n (.presented c)) s = exec (.intenWrite n c.data) s)) ∧
      (c.write = false → ∃ w : Word,
        exec (.windowWrite n (.presented c)) s = .next (s.setPort n
          { s.port n with heldWindow := none, windowAnswer := some (.word w) }) ∧
        (∀ i : ParamId, c.word.val = i.val → w = (s.port n).params[i]) ∧
        (c.word.val = 8 →
          field w 0 8 = (s.port n).code.toNat ∧ bit w 16 = (s.port n).overrun ∧ field w 11 5 = 0 ∧
          field w 17 15 = 0 ∧ ((s.port n).window = .idle → field w 8 3 = 0) ∧
          ((s.port n).window = .pending → field w 8 3 = 1) ∧
          ((s.port n).window = .executing → field w 8 3 = 2) ∧ ((s.port n).window = .done → field w 8 3 = 3) ∧
          ((s.port n).window = .detaching → field w 8 3 = 4)) ∧
        (c.word.val = 9 → w = (s.port n).status) ∧ (c.word.val = 10 → w = (s.port n).result0) ∧
        (c.word.val = 11 → w = (s.port n).result1) ∧ (c.word.val = 12 → w = (s.port n).result2) ∧
        (c.word.val = 13 → w.toNat = (s.profile n).status.toNat) ∧
        (c.word.val = 14 → w.toNat = (s.profile n).enable.toNat) ∧
        (c.word.val = 15 → w.toNat = 0x0640 * 2 ^ 16 + n.val)))

/-- R169, R170, R171, R42, R120: INTEN replaces the enable; a 1 written to INTSTAT clears its cause, but for FAULT while
the latch is valid and SCRUB_FAIL of agent 0 while an entry is FAULTED; IRQn is asserted exactly while status and enable
have a cause in common. The port's record of a held-off cycle is the model's (notes/assumptions/17.md). -/
def Obligations.InterruptWordsAndLine : Prop :=
  ∀ (s : State) (n : AgentId) (v : Word), s.resetAsserted = false →
    exec (.intenWrite n v) s = .next ((s.setProfile n
      { s.profile n with enable := v.extractLsb' 0 9 }).setPort n
      { s.port n with heldWindow := none, windowAnswer := some .acknowledge }) ∧
    (∃ x : BitVec 9,
      exec (.intstatWrite n v) s = .next ((s.setProfile n { s.profile n with status := x }).setPort n
        { s.port n with heldWindow := none, windowAnswer := some .acknowledge }) ∧
      (∀ k : Fin 7, x.getLsbD k.val = ((s.profile n).status.getLsbD k.val && !v.getLsbD k.val)) ∧
      x.getLsbD 7 =
        ((s.profile n).status.getLsbD 7 && (!v.getLsbD 7 || (s.profile n).latch.isSome)) ∧
      x.getLsbD 8 =
        ((s.profile n).status.getLsbD 8 && (!v.getLsbD 8 || (n == 0 && s.anyFaulted)))) ∧
    (s.irqAsserted n = true ↔ ∃ k < 9, (s.profile n).status.getLsbD k = true ∧ (s.profile n).enable.getLsbD k = true)

/-! ## The access check -/

/-- R25, R24, R27 to R30: checks 2 to 7, in their order; the first that fails is the refusal. -/
def Obligations.DecodeChecksInOrder : Prop :=
  ∀ (s : State) (n : AgentId) (a : AccessInfo), s.SelfOverlapLaw →
    (a.addr.toNat % a.size.bytes ≠ 0 → s.refusal n a = some .misaligned) ∧
    (a.addr.toNat % a.size.bytes = 0 →
      ((s.profile n).enabled = false → s.refusal n a = some .disabled) ∧
      ((s.profile n).enabled = true → (∀ i l, ¬s.Covers n a.addr i l) → s.refusal n a = some .noLease) ∧
      ∀ i l, (s.profile n).enabled = true → s.Covers n a.addr i l →
        (l.rights.allow a.kind = false → s.refusal n a = some .rights) ∧
        (l.rights.allow a.kind = true →
          (l.floor = .priv → a.priv = .u → s.refusal n a = some .privilege) ∧
          (l.floor = .any ∨ a.priv = .p →
            (∀ x, l.slot = some x → s.leases.inForce ≠ some x.phase ∨ x.effective = false →
              s.refusal n a = some .outOfPhase) ∧
            ((∀ x, l.slot = some x → s.leases.inForce = some x.phase ∧ x.effective = true) →
              s.refusal n a = none))))

/-- R22, R23, R26, R33: the byte enables give the size, or none, and the lines give the kind and the privilege. An
access without a size or at a DETACHING window ends in a bus error alone, a read with data 0; a refused one in a bus
error and a fault report; one presented while the marker is set or RESET asserted is held off, and is decoded as a new
arrival once neither holds. The port's record of it is the model's (notes/assumptions/14.md). -/
def Obligations.RefusedOrHeldOffAccess : Prop :=
  ∀ (s : State) (n : AgentId) (c : MemCycle),
    (accessOf c = none ↔ c.be = 0 ∨ c.be = 0x5 ∨ c.be = 0x7 ∨ c.be = 0x9 ∨ c.be = 0xA ∨ c.be = 0xB ∨ c.be = 0xD ∨
      c.be = 0xE) ∧
    (∀ a, accessOf c = some a →
      (c.be = 0x1 ∨ c.be = 0x2 ∨ c.be = 0x4 ∨ c.be = 0x8 → a.info.size = .one) ∧
      (c.be = 0x3 ∨ c.be = 0x6 ∨ c.be = 0xC → a.info.size = .two) ∧ (c.be = 0xF → a.info.size = .four) ∧
      a.info.addr = c.addr ∧ a.data = c.data ∧
      (a.info.kind = if c.write = true then .dataWrite else if c.fetch = true then .fetch else .dataRead) ∧
      (a.info.priv = if c.priv = true then .p else .u)) ∧
    ((s.port n).marker ≠ none ∨ s.resetAsserted = true →
      exec (.accessDecode n (.presented c)) s = .next (s.setPort n { s.port n with held := some c })) ∧
    ((s.port n).marker = none → s.resetAsserted = false →
      ((s.port n).held = some c → exec (.accessDecode n .heldOff) s = exec (.accessDecode n (.presented c)) s) ∧
      (accessOf c = none ∨ (s.port n).window = .detaching →
        exec (.accessDecode n (.presented c)) s = .next (s.setPort n
          { s.port n with
            held := none, memAnswer := some (.busError (if c.write = true then none else some 0)) })) ∧
      ∀ a r, accessOf c = some a → (s.port n).window ≠ .detaching → s.refusal n a.info = some r →
        exec (.accessDecode n (.presented c)) s = .next (s.setPort n
          { s.port n with
            held := none
            memAnswer := some (.busError (if c.write = true then none else some 0))
            reports := (s.port n).reports ++ [{ info := a.info, reason := r }] }))

/-- R31, R32: a permitted access reloads an ACTIVITY lease, sets the marker, and is passed to the Memory Port; nothing
else changes. That an arrival at a free port has a decision of its own is DEDUCED (notes/assumptions/7.md). -/
def Obligations.PermittedAccessIsForwarded : Prop :=
  ∀ (s : State) (n : AgentId) (c : MemCycle) (a : Access) (i : EntryId) (g : BitVec 8) (l : Lease)
    (o : Option AgentId), s.SelfOverlapLaw → (s.port n).marker = none → s.resetAsserted = false →
    accessOf c = some a → (s.port n).window ≠ .detaching → s.refusal n a.info = none →
    s.entry i = { gen := g, body := .active n l o } → l.range.contains a.info.addr = true →
    ∃ life : Life,
      (∀ k, l.life = .timed .activity k →
        life = .timed .activity { k with remaining := k.term, warned := false }) ∧
      ((∀ k, l.life ≠ .timed .activity k) → life = l.life) ∧
      exec (.accessDecode n (.presented c)) s = .next
        (((s.setEntry i { gen := g, body := .active n { l with life := life } o }).setPort n
          { s.port n with
            held := none, marker := some { info := a.info, discard := false }, memAnswer := none }).setMemPort
          { s.memPort with
            requests := s.memPort.requests.set n (some a)
            due := if s.memPort.quiet then .arrival (.agent n) else s.memPort.due })

/-- R31: whatever a step does, an access reaches the Memory Port only under an ACTIVE entry of the accessing agent that
contains every byte of it, with its right, its floor and, where slotted, its phase in force and effective; and it is
granted only after it has reached it. -/
def Obligations.ForwardedOnlyUnderACoveringLease : Prop :=
  ∀ (s t : State) (n : AgentId) (a : Access), s.FieldLaw → step s = .next t →
    (t.memPort.requests[n] = some a → s.memPort.requests[n] ≠ some a →
      ∃ i l x, (s.entry i).body = .active n l x ∧
        (∀ k < a.info.size.bytes, l.range.base.toNat ≤ a.info.addr.toNat + k ∧
          a.info.addr.toNat + k < l.range.base.toNat + 2 ^ l.range.order) ∧
        (a.info.kind = .dataRead → l.rights.r = true) ∧ (a.info.kind = .dataWrite → l.rights.w = true) ∧
        (a.info.kind = .fetch → l.rights.x = true) ∧ (l.floor = .any ∨ a.info.priv = .p) ∧
        ∀ y, l.slot = some y → s.leases.inForce = some y.phase ∧ y.effective = true) ∧
    (t.memPort.grant = some (.agent n a) → s.memPort.grant ≠ some (.agent n a) → s.memPort.requests[n] = some a)

/-- R40, R42, R62: a report is taken whole by an empty latch, and adds its reason to a valid one; FAULT is set in the
same claim, and nothing else changes. That the oldest report on its way is the one taken is the model's (DEDUCED,
notes/assumptions/6.md). -/
def Obligations.FaultReportAtLatch : Prop :=
  ∀ (s : State) (n : AgentId) (r : FaultReport) (rest : List FaultReport), (s.port n).reports = r :: rest →
    ((s.profile n).latch = none →
      exec (.faultReport n) s = .next ((s.setPort n { s.port n with reports := rest }).setProfile n
        { s.profile n with
          latch := some { info := r.info, reason := r.reason, further := 0 }
          status := (s.profile n).status ||| 0x080 })) ∧
    ∀ (x : Latch) (k : Nat), (s.profile n).latch = some x →
      (r.reason = .misaligned ∧ k = 1 ∨ r.reason = .disabled ∧ k = 2 ∨ r.reason = .noLease ∧ k = 3 ∨
        r.reason = .rights ∧ k = 4 ∨ r.reason = .privilege ∧ k = 5 ∨ r.reason = .outOfPhase ∧ k = 6 ∨
        r.reason = .memory ∧ k = 7) →
      exec (.faultReport n) s = .next ((s.setPort n { s.port n with reports := rest }).setProfile n
        { s.profile n with
          latch := some { x with further := x.further ||| 1#7 <<< (k - 1) }
          status := (s.profile n).status ||| 0x080 })

/-! ## The Memory Port -/

/-- R181, R182: MACK, MERR and the timeout are ignored while no word is in progress: without a grant, and between two
words of a chunk, where the chunk keeps its grant and MSTB is deasserted until a clock begins the next word (when that
is: DESIGN CHOICE, notes/assumptions/20.md). No decision is taken while a grant is current; at the end of a grant the
chunk is chosen where no agent waits or the credit stands at 16, and otherwise the first waiting agent after the
pointer, the credit rising by one while a chunk waits; an arrival at a free port is granted alone (DEDUCED,
notes/assumptions/7.md). A grant asserts MSTB. -/
def Obligations.GrantDecision : Prop :=
  ∀ s : State,
    (s.memPort.grant = none ∨ s.memPort.strobe = none → ∀ e : Instr,
      (e = .mack ∨ e = .merr false ∨ e = .merr true ∨ e = .acknowledgeTimeout) → exec e s = .next s) ∧
    (s.memPort.grant ≠ none → exec .memoryGrant s = .next s) ∧
    (s.memPort.grant = none → s.memPort.due = .endOfGrant →
      (∀ c, s.memPort.chunk = some c →
        (∀ n : AgentId, s.memPort.requests[n] = none) ∨ 16 ≤ s.memPort.credit →
        exec .memoryGrant s = .next (s.setMemPort
          { s.memPort with chunk := none, grant := some (.chunk c 0), credit := 0, due := .none, strobe := some 0 })) ∧
      (∀ (k : Nat) (n : AgentId) (a : Access), k < 6 → n = Fin.ofNat 6 (s.memPort.pointer.val + 1 + k) →
        s.memPort.requests[n] = some a →
        (∀ j < k, s.memPort.requests[Fin.ofNat 6 (s.memPort.pointer.val + 1 + j)] = none) →
        (s.memPort.chunk = none ∨ s.memPort.credit < 16) →
        exec .memoryGrant s = .next (s.setMemPort
          { s.memPort with
            requests := s.memPort.requests.set n none, grant := some (.agent n a), pointer := n
            credit := if s.memPort.chunk = none then s.memPort.credit else s.memPort.credit + 1
            due := .none, strobe := some 0 }))) ∧
    (s.memPort.grant = none →
      (∀ n a, s.memPort.due = .arrival (.agent n) → s.memPort.requests[n] = some a →
        exec .memoryGrant s = .next (s.setMemPort
          { s.memPort with
            requests := s.memPort.requests.set n none, grant := some (.agent n a), pointer := n, due := .none
            strobe := some 0 })) ∧
      ∀ c, s.memPort.due = .arrival .chunk → s.memPort.chunk = some c →
        exec .memoryGrant s = .next (s.setMemPort
          { s.memPort with chunk := none, grant := some (.chunk c 0), credit := 0, due := .none, strobe := some 0 }))

/-- R34, R182, R183: the lines of agent n's word in progress, and MACK as its end. A read or a fetch has all four byte
enables, a write those of its address and size. A write puts the addressed lanes of its data into the array and no
other byte; a read answers the addressed bytes; the answer is withheld under the discard flag; the marker clears and
the grant ends. Which lane of the data is which byte is the model's choice (notes/assumptions/10.md). An access at the
port is aligned (R25, MarkerLaw). -/
def Obligations.AccessEndsWithMack : Prop :=
  ∀ (s : State) (n : AgentId) (a : Access) (m : Marker), s.memPort.grant = some (.agent n a) →
    s.memPort.strobe ≠ none → (s.port n).marker = some m → a.info.addr.toNat % a.info.size.bytes = 0 →
    (∃ l, s.memPort.lines = some l ∧ 4 * l.ma.toNat = a.info.addr.toNat / 4 * 4 ∧
      (a.info.kind = .dataWrite → l.mwe = true ∧ l.md = some a.data ∧
        ∀ k < 4, l.mbe.getLsbD k = true ↔ a.info.addr.toNat / 4 * 4 + k ∈ a.info.byteAddresses) ∧
      (a.info.kind ≠ .dataWrite → l.mwe = false ∧ l.md = none ∧ l.mbe = 0xF)) ∧
    ∃ t, exec .mack s = .next t ∧
      (a.info.kind = .dataWrite →
        (∀ b ∈ a.info.byteAddresses, t.sramByte b = a.data.extractLsb' (8 * (b % 4)) 8) ∧
        (∀ b, b ∉ a.info.byteAddresses → t.sramByte b = s.sramByte b)) ∧
      (a.info.kind ≠ .dataWrite → t.sram = s.sram) ∧
      t.port n =
        { s.port n with
          marker := none
          memAnswer :=
            if m.discard = true then (s.port n).memAnswer
            else if a.info.kind = .dataWrite then some .acknowledge
            else some (.bytes (a.info.byteAddresses.map s.sramByte)) } ∧
      (∀ k, k ≠ n → t.port k = s.port k) ∧ t.memPort.grant = none ∧ t.memPort.due = .endOfGrant ∧
      t.memPort.requests = s.memPort.requests ∧ t.waits = s.waits ∧ t.profiles = s.profiles ∧
      t.guards = s.guards ∧ t.timebase = s.timebase ∧ t.phases = s.phases ∧ t.freeIndex = s.freeIndex

/-- R35, R33, R182, R183: MERR, with or without MACK, or the timeout ends agent n's word in progress with a bus error,
with data 0 on a read or a fetch, and a MEMORY report, both withheld under the discard flag; bytes outside the word
keep their values. The timeout comes at the 256th clock (R182); that its row may come at any count is the model's
(DESIGN CHOICE, notes/assumptions/3.md). -/
def Obligations.AccessEndsWithError : Prop :=
  ∀ (s : State) (n : AgentId) (a : Access) (m : Marker) (e : Instr), s.memPort.grant = some (.agent n a) →
    s.memPort.strobe ≠ none → (s.port n).marker = some m →
    (e = .merr false ∨ e = .merr true ∨ e = .acknowledgeTimeout) →
    ∃ t, exec e s = .next t ∧
      (∀ b, b < a.info.addr.toNat / 4 * 4 ∨ a.info.addr.toNat / 4 * 4 + 3 < b → t.sramByte b = s.sramByte b) ∧
      t.port n =
        { s.port n with
          marker := none
          memAnswer :=
            if m.discard = true then (s.port n).memAnswer
            else some (.busError (if a.info.kind = .dataWrite then none else some 0))
          reports :=
            if m.discard = true then (s.port n).reports
            else (s.port n).reports ++ [{ info := a.info, reason := .memory }] } ∧
      (∀ k, k ≠ n → t.port k = s.port k) ∧ t.memPort.grant = none ∧ t.memPort.due = .endOfGrant ∧
      t.memPort.requests = s.memPort.requests ∧ t.waits = s.waits ∧ t.profiles = s.profiles ∧
      t.guards = s.guards ∧ t.timebase = s.timebase ∧ t.phases = s.phases

/-- R36, R108, R109: the completion of agent n's access, at the end of its word in progress, drains every entry that
drains for n, and no other: KEEP becomes FREE with its generation, SCRUB joins the scrub queue, several of them in
increasing order of entry number. The timeout comes at the 256th clock (R182); that its row may come at any count is
the model's (DESIGN CHOICE, notes/assumptions/3.md). -/
def Obligations.CompletionDrainsEveryEntry : Prop :=
  ∀ (s : State) (n : AgentId) (a : Access) (e : Instr), s.memPort.grant = some (.agent n a) →
    s.memPort.strobe ≠ none → (e = .mack ∨ e = .merr false ∨ e = .merr true ∨ e = .acknowledgeTimeout) →
    ∃ t, exec e s = .next t ∧
      (∀ i g l, s.entry i = { gen := g, body := .retiring (some n) l true } →
        (l.disposition = .keep → t.entry i = { gen := g, body := .free } ∧ t.manager.reexamine = true) ∧
        (l.disposition = .scrub → t.entry i = { gen := g, body := .retiring (some n) l false })) ∧
      (∀ i, (∀ l, (s.entry i).body ≠ .retiring (some n) l true) → t.entry i = s.entry i) ∧
      (∃ joined : List EntryId, t.scrub.queue = s.scrub.queue ++ joined ∧ joined.Pairwise (· < ·) ∧
        ∀ i, i ∈ joined ↔
          ∃ l, (s.entry i).body = .retiring (some n) l true ∧ l.disposition = .scrub) ∧
      t.manager.job = s.manager.job ∧ t.manager.list = s.manager.list ∧ t.leases.inForce = s.leases.inForce

/-- R110, R111, R112, R113, R116, R182, R184: the lines of a chunk's word, which stand between two words as those of
the next one (DESIGN CHOICE, notes/assumptions/18.md); MACK ends the word in progress, and writes one word of zeros.
Before word 63 MSTB is deasserted and the next word is to begin under the same grant (when it begins: DESIGN CHOICE,
notes/assumptions/20.md); at word 63 the head's progress and the counter rise, the last chunk frees the head, and the
engine goes on, goes idle, or takes the hold. The progress that is left where the queue is then empty is the model's 0
(DESIGN CHOICE, notes/assumptions/25.md). -/
def Obligations.ChunkWordsAndCompletion : Prop :=
  ∀ (s : State) (c : Chunk) (k x : Nat), s.memPort.grant = some (.chunk c k) → x = 4 * (c.wordLine k).toNat →
    (c.base.toNat % 4 = 0 → c.base.toNat + 256 * c.number + 4 * k < 2 ^ 24 →
      x = c.base.toNat + 256 * c.number + 4 * k) ∧
    s.memPort.lines = some { ma := c.wordLine k, mbe := 0xF, mwe := true, md := some 0 } ∧
    (s.memPort.strobe ≠ none → k < 63 → exec .mack s = .next ((s.store [(x, 0), (x + 1, 0), (x + 2, 0), (x + 3, 0)]).setMemPort
      { s.memPort with grant := some (.chunk c (k + 1)), strobe := none })) ∧
    (s.memPort.strobe ≠ none → 63 ≤ k → ∀ i rest g o l, s.scrub.queue = i :: rest →
      s.entry i = { gen := g, body := .retiring o l false } →
      ∃ t, exec .mack s = .next t ∧
        (∀ b, b < x ∨ x + 3 < b → t.sramByte b = s.sramByte b) ∧
        (∀ b, x ≤ b → b ≤ x + 3 → t.sramByte b = 0) ∧
        t.memPort.grant = none ∧ t.memPort.due = .endOfGrant ∧ t.memPort.requests = s.memPort.requests ∧
        t.scrub.sinceGo = min 4 (s.scrub.sinceGo + 1) ∧
        (s.scrub.progress + 1 ≠ 2 ^ (l.range.order - 8) →
          t.scrub.queue = i :: rest ∧ t.scrub.progress = s.scrub.progress + 1 ∧ t.leases = s.leases ∧
            t.manager = s.manager) ∧
        (s.scrub.progress + 1 = 2 ^ (l.range.order - 8) →
          t.scrub.queue = rest ∧ t.scrub.progress = 0 ∧ t.entry i = { gen := g, body := .free } ∧
            (∀ j, j ≠ i → t.entry j = s.entry j) ∧ t.manager = { s.manager with reexamine := true }) ∧
        (s.scrub.mode = .running → s.scrub.holdPending = false →
          t.scrub.holdPending = false ∧ t.scrub.mode = if t.scrub.queue = [] then .idle else .running) ∧
        (s.scrub.mode = .running → s.scrub.holdPending = true →
          (t.scrub.queue = [] ∨ t.scrub.sinceGo = 4 → t.scrub.mode = .suspended ∧ t.scrub.holdPending = false) ∧
          (t.scrub.queue ≠ [] → t.scrub.sinceGo ≠ 4 → t.scrub.mode = .running ∧ t.scrub.holdPending = true)) ∧
        (s.scrub.mode = .suspending → t.scrub.mode = .suspended) ∧
        (t.scrub.mode = .running → ∀ j y, t.scrub.queue.head? = some j → (t.entry j).body.lease? = some y →
          t.memPort.chunk = some { base := y.range.base, number := t.scrub.progress }) ∧
        (s.scrub.mode = .running ∨ s.scrub.mode = .suspending → t.scrub.mode ≠ .running →
          t.memPort.chunk = s.memPort.chunk) ∧
        t.ports = s.ports ∧ t.waits = s.waits ∧ t.profiles = s.profiles ∧ t.guards = s.guards ∧
        t.timebase = s.timebase ∧ t.phases = s.phases)

/-- R113, R119, R182, R184: MERR, with or without MACK, or the timeout ends the chunk at its word in progress: the
head becomes FAULTED and leaves the queue, SCRUB_FAIL is set at agent 0 and no fault report is made, and the engine
goes on with a new chunk request, goes idle, or is suspended with none. The progress that is left where the queue is
then empty is the model's 0 (DESIGN CHOICE, notes/assumptions/25.md). The timeout comes at the 256th clock (R182);
that its row may come at any count is the model's (DESIGN CHOICE, notes/assumptions/3.md). -/
def Obligations.ChunkFailureFaultsTheHead : Prop :=
  ∀ (s : State) (c : Chunk) (k : Nat) (e : Instr) (i : EntryId) (rest : List EntryId) (g : BitVec 8)
    (o : Option AgentId) (l : Lease), s.memPort.grant = some (.chunk c k) → s.memPort.strobe ≠ none →
    (e = .merr false ∨ e = .merr true ∨ e = .acknowledgeTimeout) →
    s.scrub.queue = i :: rest → s.entry i = { gen := g, body := .retiring o l false } →
    ∃ t, exec e s = .next t ∧
      t.entry i = { gen := g, body := .faulted l } ∧ (∀ j, j ≠ i → t.entry j = s.entry j) ∧
      t.scrub.queue = rest ∧ t.scrub.progress = 0 ∧ t.scrub.sinceGo = s.scrub.sinceGo ∧ t.manager = s.manager ∧
      t.profile 0 = { s.profile 0 with status := (s.profile 0).status ||| 0x100 } ∧
      (∀ n, n ≠ 0 → t.profile n = s.profile n) ∧ t.ports = s.ports ∧ t.waits = s.waits ∧
      t.memPort.grant = none ∧ t.memPort.due = .endOfGrant ∧
      (∀ b, b < 4 * (c.wordLine k).toNat ∨ 4 * (c.wordLine k).toNat + 3 < b → t.sramByte b = s.sramByte b) ∧
      (s.scrub.mode = .running → s.scrub.holdPending = false →
        t.scrub.mode = if rest = [] then .idle else .running) ∧
      (s.scrub.mode = .running → s.scrub.holdPending = true → rest = [] →
        t.scrub.mode = .suspended ∧ t.scrub.holdPending = false) ∧
      (s.scrub.mode = .running → s.scrub.holdPending = true → rest ≠ [] → s.scrub.sinceGo < 4 →
        t.scrub.mode = .running ∧ t.scrub.holdPending = true) ∧
      (s.scrub.mode = .suspending → t.scrub.mode = .suspended) ∧
      (t.scrub.mode = .running → ∀ j x, rest.head? = some j → (t.entry j).body.lease? = some x →
        t.memPort.chunk = some { base := x.range.base, number := 0 }) ∧
      (s.scrub.mode = .running ∨ s.scrub.mode = .suspending → t.scrub.mode ≠ .running →
        t.memPort.chunk = s.memPort.chunk) ∧
      t.memPort.requests = s.memPort.requests ∧ t.guards = s.guards ∧ t.timebase = s.timebase ∧
      t.phases = s.phases ∧ t.leases.inForce = s.leases.inForce ∧ t.leases.ticksDue = s.leases.ticksDue ∧
      t.leases.sequencerClaims = s.leases.sequencerClaims

/-! ## The Lease Manager -/

/-- R50, R89: with no job in hand, the oldest teardown is taken first, then the pass, then the first PENDING window
after the pointer; a pass with nothing waiting ends at once. With a job in hand nothing is taken. -/
def Obligations.TakeInOrderOfPriority : Prop :=
  ∀ s : State,
    (s.manager.job ≠ none → exec .lmTake s = .next s) ∧
    (s.manager.job = none →
      (∀ n rest, s.manager.list = n :: rest →
        exec .lmTake s = .next { s with
          manager := { s.manager with job := some (.teardown n), list := rest } }) ∧
      (s.manager.list = [] → s.manager.reexamine = true →
        exec .lmTake s = .next { s with
          manager := { s.manager with
            job := if s.waits.order = [] then none else some (.pass s.waits.order)
            reexamine := false } }) ∧
      (s.manager.list = [] → s.manager.reexamine = false →
        ((∀ n, (s.port n).window ≠ .pending) → exec .lmTake s = .next s) ∧
        ∀ (k : Nat) (n : AgentId), k < 6 → n = Fin.ofNat 6 (s.manager.pointer.val + 1 + k) →
          (s.port n).window = .pending →
          (∀ j < k, (s.port (Fin.ofNat 6 (s.manager.pointer.val + 1 + j))).window ≠ .pending) →
          exec .lmTake s = .next { s.setPort n { s.port n with window := .executing } with
            manager := { s.manager with
              job := some (.command n (s.port n).code (s.port n).params)
              pointer := n } }))

/-- R89 to R92: a step examines the oldest entry still WAITING. It is resolved DENIED or GUARDED, granted in the
lowest FREE entry, or left as it stands; the pass ends when none of the rest is still WAITING. That it ends in this
very claim is DEDUCED (notes/assumptions/15.md). The entries are read as they stand; that a KEEP entry which a tick has
expired between two steps can be FREE by then is the model's reading of R94 (DESIGN CHOICE,
notes/assumptions/23.md). -/
def Obligations.PassStepExaminesOneEntry : Prop :=
  ∀ (s : State) (gone rest : List WaitId) (w : WaitId) (g : BitVec 4) (n : AgentId) (q : Request) (d : Option Nat),
    s.manager.job = some (.pass (gone ++ w :: rest)) → (∀ v ∈ gone, v ∉ s.waits.order) → w ∈ s.waits.order →
    s.wait w = { gen := g, body := .waiting n q d } →
    ∃ t, exec .passStep s = .next t ∧
      t.manager =
        { s.manager with job := if ∃ v ∈ rest, v ∈ t.waits.order then some (.pass rest) else none } ∧
      t.ports = s.ports ∧ t.guards = s.guards ∧ t.scrub = s.scrub ∧ t.timebase = s.timebase ∧
      t.phases = s.phases ∧ t.memPort = s.memPort ∧ t.sram = s.sram ∧
      (∀ o : WaitOutcome,
        (o = .denied ∧ (s.profile n).enabled = false ∨
          o = .guarded ∧ (s.profile n).enabled = true ∧ ¬s.Unguarded n q.range) →
        t.leases = s.leases ∧ t.waits = ((s.setWait w { gen := g, body := .resolved n q o }).setWaitOrder
          (s.waits.order.filter (· != w))).waits ∧
        t.profiles = (s.setProfile n { s.profile n with status := (s.profile n).status ||| 0x002 }).profiles) ∧
      ((s.profile n).enabled = true → s.Unguarded n q.range →
        ((s.NoConflict q ∧ s.WithinQuota n q.range ∧ s.NoSelfOverlap n q.range ∧
            ∀ v ∈ s.waits.order.takeWhile (· ≠ w), ∀ m p x, (s.wait v).body = .waiting m p x →
              p.range.overlaps q.range = false) →
          ∀ i, s.LowestFree i →
            t.leases = (s.setEntry i
              { gen := (s.entry i).gen + 1, body := .active n q.lease none }).leases ∧
            t.waits = ((s.setWait w
              { gen := g
                body := .resolved n q (.granted { entry := i, gen := (s.entry i).gen + 1 }) }).setWaitOrder
              (s.waits.order.filter (· != w))).waits ∧
            t.profiles =
              (s.setProfile n { s.profile n with status := (s.profile n).status ||| 0x002 }).profiles) ∧
        ((¬s.NoConflict q ∨ ¬s.WithinQuota n q.range ∨ ¬s.NoSelfOverlap n q.range ∨
            (∃ v ∈ s.waits.order.takeWhile (· ≠ w), ∃ m p x, (s.wait v).body = .waiting m p x ∧
              p.range.overlaps q.range = true) ∨ ∀ i, (s.entry i).body ≠ .free) →
          t.leases = s.leases ∧ t.waits = s.waits ∧ t.profiles = s.profiles))

/-- R176, R104, R131, R86: the completion of the teardown of agent n, at the Lease Table. -/
def Obligations.TeardownOfTheLeases : Prop :=
  ∀ (s : State) (n : AgentId), s.manager.job = some (.teardown n) →
    ∃ t, exec .teardown s = .next t ∧
      (∀ i g l o, s.entry i = { gen := g, body := .active n l o } →
        t.entry i =
          { gen := g
            body :=
              if s.inFlight n l.range = true then .retiring (some n) l true
              else if l.disposition = .keep then .free
              else .retiring (some n) l false }) ∧
      (∀ i g k l, k ≠ n → s.entry i = { gen := g, body := .active k l (some n) } →
        t.entry i = { gen := g, body := .active k l none } ∧
          Cause.offerOut.isIn (t.profile k).status = true) ∧
      (∀ i, (∀ l o, (s.entry i).body ≠ .active n l o) → (∀ k l, (s.entry i).body ≠ .active k l (some n)) →
        t.entry i = s.entry i) ∧
      ∃ joined : List EntryId, t.scrub.queue = s.scrub.queue ++ joined ∧ joined.Pairwise (· < ·) ∧
        ∀ i, i ∈ joined ↔ ∃ l o, (s.entry i).body = .active n l o ∧ l.disposition = .scrub ∧
          s.inFlight n l.range = false

/-- R176, R86, R169: the completion of the teardown of agent n, everywhere but at the Lease Table. -/
def Obligations.TeardownOfTheRest : Prop :=
  ∀ (s : State) (n : AgentId), s.manager.job = some (.teardown n) →
    ∃ t, exec .teardown s = .next t ∧
      (∀ w, (s.wait w).body.requester? = some n → t.wait w = { gen := (s.wait w).gen, body := .free }) ∧
      (∀ w, (s.wait w).body.requester? ≠ some n → t.wait w = s.wait w) ∧
      t.waits.order = s.waits.order.filter (fun w => (s.wait w).body.requester? ≠ some n) ∧
      t.profile n =
        { s.profile n with
          latch := none
          status := if n = 0 ∧ s.anyFaulted = true then 0x100 else 0 } ∧
      (∀ k, k ≠ n → t.profile k = { s.profile k with status := (t.profile k).status } ∧
        (∀ b, b ≠ 6 → (t.profile k).status.getLsbD b = (s.profile k).status.getLsbD b) ∧
        ((∀ i l, (s.entry i).body ≠ .active k l (some n)) → t.profile k = s.profile k)) ∧
      t.port n =
        { s.port n with
          status := 0, result0 := 0, result1 := 0, result2 := 0, code := 0, overrun := false
          window := if (s.port n).agrst = true then (s.port n).window else .idle } ∧
      (∀ k, k ≠ n → t.port k = s.port k) ∧
      t.manager = { s.manager with job := none, reexamine := true } ∧
      t.leases.inForce = s.leases.inForce ∧ t.guards = s.guards ∧ t.timebase = s.timebase ∧
      t.phases = s.phases ∧ t.sram = s.sram ∧ t.scrub.holdPending = s.scrub.holdPending ∧
      t.scrub.sinceGo = s.scrub.sinceGo

/-! ## What every command checks -/

/-- R53: an unknown code completes with BAD_CMD; a supervisor command of another agent, and a command of a disabled
agent other than FAULT, COLLECT, QUERY and PROFILE, with DENIED. ACQUIRE makes its argument check before the second. -/
def Obligations.AdmissionOfEveryCommand : Prop :=
  ∀ (s : State) (n : AgentId) (ps : Vector Word 8),
    (∀ code : BitVec 8, (∀ c : Command, c.code ≠ code) → s.manager.job = some (.command n code ps) →
      (s.port n).window = .executing → exec .badCmd s = .next (s.answered n code { status := .badCmd })) ∧
    ∀ c : Command, s.Executes n c ps →
      (c.supervisor = true → n ≠ 0 → exec c.instr s = .next (s.answered n c.code { status := .denied })) ∧
      (c ≠ .acquire → c.openToDisabled = false → (s.profile n).enabled = false →
        exec c.instr s = .next (s.answered n c.code { status := .denied }))

/-- R52, R53: at a DETACHING window the response is discarded and the effects are applied all the same; an unknown code
completes there too, with no effect but the end of the job. -/
def Obligations.DetachedResponseIsDiscarded : Prop :=
  (∀ (s : State) (n : AgentId) (code : BitVec 8) (ps : Vector Word 8), (∀ c : Command, c.code ≠ code) →
    s.manager.job = some (.command n code ps) → (s.port n).window = .detaching →
    exec .badCmd s = .next (s.setJob none)) ∧
  ∀ (s t : State) (n : AgentId) (c : Command) (ps : Vector Word 8), s.Executes n c ps → exec c.instr s = .next t →
    ∃ u, exec c.instr (s.setPort n { s.port n with window := .detaching }) = .next u ∧
      u.port n = { s.port n with window := .detaching } ∧ (∀ k, k ≠ n → u.port k = t.port k) ∧
      (Cause.done.isIn (u.profile n).status = Cause.done.isIn (s.profile n).status) ∧
      (u.raise .done n).profiles = t.profiles ∧ u.leases = t.leases ∧ u.waits = t.waits ∧
      u.manager = t.manager ∧ u.guards = t.guards ∧ u.scrub = t.scrub ∧ u.timebase = t.timebase ∧
      u.phases = t.phases ∧ u.memPort = t.memPort ∧ u.sram = t.sram

/-- R8, R75, R78, R101, R102, R124, R127, R130: a handle whose generation differs, or whose entry is FREE, is STALE; one
that names a RETIRING or FAULTED entry is RETIRED; then NOT_OWNER, or NOT_OFFERED. Nothing else changes. -/
def Obligations.HandleChecks : Prop :=
  ∀ (s : State) (n : AgentId) (c : Command) (ps : Vector Word 8) (h : Handle) (e : Entry), s.Runs n c ps →
    h.entry.val = field ps[0] 0 6 → h.gen.toNat = field ps[0] 8 8 → s.entry h.entry = e →
    (c ∈ [Command.renew, .narrow, .release, .revoke, .offer, .accept, .decline] →
      (e.gen ≠ h.gen ∨ e.body = .free → exec c.instr s = .next (s.answered n c.code { status := .stale })) ∧
      (e.gen = h.gen → ((∃ o l d, e.body = .retiring o l d) ∨ ∃ l, e.body = .faulted l) →
        exec c.instr s = .next (s.answered n c.code { status := .retired }))) ∧
    ∀ o l t, e = { gen := h.gen, body := .active o l t } →
      (c ∈ [Command.renew, .narrow, .release, .offer] → o ≠ n →
        exec c.instr s = .next (s.answered n c.code { status := .notOwner })) ∧
      (c ∈ [Command.accept, .decline] → t ≠ some n →
        exec c.instr s = .next (s.answered n c.code { status := .notOffered }))

/-! ## ACQUIRE -/

/-- R61, R63 to R70: what the parameters of ACQUIRE spell, the checks in their order, and what a refused one leaves:
nothing but its answer. The entries are read as they stand at the completion; that a KEEP entry which a tick has expired
since the take can be FREE by then is the model's reading beside R73 (DESIGN CHOICE, notes/assumptions/23.md). -/
def Obligations.AcquireChecksInOrder : Prop :=
  (∀ q : Request, q.valid = true ↔
    (12 ≤ q.range.order ∧ q.range.order ≤ 24 ∧ q.range.base.toNat % 2 ^ q.range.order = 0 ∧
      (q.rights.r = true ∨ q.rights.w = true ∨ q.rights.x = true) ∧
      (q.share = .sharedRead → q.rights.w = false) ∧
      (∀ m term warn, q.life = .timed m term warn → 0 < term ∧ warn < term) ∧
      (q.life = .pinned → q.phase = none) ∧
      (q.disposition = .scrub → q.share = .exclusive ∧ q.phase = none))) ∧
  ∀ (s : State) (n : AgentId) (ps : Vector Word 8), s.Executes n .acquire ps →
    (field ps[2] 8 2 ≠ 3 → field ps[3] 0 2 ≠ 3 → ∃ q : Request, q.ReadFrom ps) ∧
    (field ps[2] 8 2 = 3 ∨ field ps[3] 0 2 = 3 ∨ (∃ q : Request, q.ReadFrom ps ∧ q.valid = false) →
      exec .acquire s = .next (s.answered n 0x01 { status := .badArg })) ∧
    ∀ q : Request, q.ReadFrom ps → q.valid = true →
      ((s.profile n).enabled = false ∨ q.life = .pinned ∧ n ≠ 0 →
        exec .acquire s = .next (s.answered n 0x01 { status := .denied })) ∧
      ((s.profile n).enabled = true → (q.life = .pinned → n = 0) →
        (¬s.Unguarded n q.range → exec .acquire s = .next (s.answered n 0x01 { status := .guarded })) ∧
        (s.Unguarded n q.range →
          (¬s.WithinQuota n q.range → exec .acquire s = .next (s.answered n 0x01 { status := .quota })) ∧
          (s.WithinQuota n q.range →
            (¬s.NoSelfOverlap n q.range →
              exec .acquire s = .next (s.answered n 0x01 { status := .selfOverlap })) ∧
            (s.NoSelfOverlap n q.range → bit ps[6] 31 = false →
              (¬(s.NoConflict q ∧ s.NoneWaits n q.range) →
                exec .acquire s = .next (s.answered n 0x01 { status := .conflict })) ∧
              (s.NoConflict q → s.NoneWaits n q.range → (∀ i, (s.entry i).body ≠ .free) →
                exec .acquire s = .next (s.answered n 0x01 { status := .tableFull }))))))

/-- R7, R71: an ACQUIRE that passes every check makes the lowest FREE entry ACTIVE with its generation advanced, its
fields from the request, and answers the new handle. -/
def Obligations.AcquireGrantsTheLowestFreeEntry : Prop :=
  ∀ (s : State) (n : AgentId) (ps : Vector Word 8) (q : Request) (i : EntryId), s.Executes n .acquire ps →
    q.ReadFrom ps → q.valid = true → (s.profile n).enabled = true → (q.life = .pinned → n = 0) →
    s.Unguarded n q.range → s.WithinQuota n q.range → s.NoSelfOverlap n q.range → s.NoConflict q →
    s.NoneWaits n q.range → s.LowestFree i →
    ∃ life : Life,
      (q.life = .pinned → life = .pinned) ∧
      (∀ m term warn, q.life = .timed m term warn →
        life = .timed m { term := term, warn := warn, remaining := term, warned := false }) ∧
      exec .acquire s = .next ((s.setEntry i
        { gen := (s.entry i).gen + 1
          body := .active n
            { range := q.range, rights := q.rights, floor := q.floor, share := q.share, life := life,
              disposition := q.disposition, slot := q.phase.map fun p => { phase := p, effective := false } }
            none }).answered n 0x01
        { status := .ok, r0 := BitVec.ofNat 32 (i.val + 256 * ((s.entry i).gen + 1).toNat) })

/-- R72, R83: a request that fails check 6 or 7 with its wait flag set takes the lowest FREE wait entry, last in the
waiting order, and is answered QUEUED with its ticket; WAIT_FULL where there is none, or the agent has four. -/
def Obligations.AcquireQueuesOrFindsTheListFull : Prop :=
  ∀ (s : State) (n : AgentId) (ps : Vector Word 8) (q : Request), s.Executes n .acquire ps →
    q.ReadFrom ps → q.valid = true → (s.profile n).enabled = true → (q.life = .pinned → n = 0) →
    s.Unguarded n q.range → s.WithinQuota n q.range → s.NoSelfOverlap n q.range →
    (¬(s.NoConflict q ∧ s.NoneWaits n q.range) ∨ ∀ i, (s.entry i).body ≠ .free) → bit ps[6] 31 = true →
    (∀ w, s.LowestFreeWait w → s.waitsHeld n < 4 →
      exec .acquire s = .next (((s.setWait w
        { gen := (s.wait w).gen + 1
          body := .waiting n q
            (if (ps[6].extractLsb' 0 16).toNat = 0 then none
             else some (ps[6].extractLsb' 0 16).toNat) }).setWaitOrder (s.waits.order ++ [w])).answered n 0x01
        { status := .queued, r0 := BitVec.ofNat 32 (w.val + 16 * ((s.wait w).gen + 1).toNat) })) ∧
    ((∀ w, (s.wait w).body ≠ .free) ∨ 4 ≤ s.waitsHeld n →
      exec .acquire s = .next (s.answered n 0x01 { status := .waitFull }))

/-! ## Commands on leases -/

/-- R74, R75, R76, R78, R79: RENEW reloads the countdown, with a new term if given, and NARROW lowers order and rights;
each closes the offer. BAD_ARG changes nothing. -/
def Obligations.RenewAndNarrow : Prop :=
  ∀ (s : State) (n : AgentId) (ps : Vector Word 8) (h : Handle) (l : Lease) (o : Option AgentId),
    h.entry.val = field ps[0] 0 6 → h.gen.toNat = field ps[0] 8 8 →
    s.entry h.entry = { gen := h.gen, body := .active n l o } →
    (s.Runs n .renew ps →
      (bit ps[1] 0 = false →
        (l.life = .pinned → exec .renew s = .next
          ((s.setEntry h.entry { gen := h.gen, body := .active n l none }).answered n 0x02 { status := .ok })) ∧
        ∀ m k, l.life = .timed m k → exec .renew s = .next
          ((s.setEntry h.entry
            { gen := h.gen
              body := .active n { l with life := .timed m { k with remaining := k.term, warned := false } }
                none }).answered n 0x02 { status := .ok })) ∧
      (bit ps[1] 0 = true → ∀ term warn, term = field ps[4] 0 16 → warn = field ps[4] 16 16 →
        (l.life = .pinned ∨ term = 0 ∨ term ≤ warn →
          exec .renew s = .next (s.answered n 0x02 { status := .badArg })) ∧
        ∀ m k, l.life = .timed m k → warn < term → exec .renew s = .next
          ((s.setEntry h.entry
            { gen := h.gen
              body := .active n
                { l with life := .timed m { term := term, warn := warn, remaining := term, warned := false } }
                none }).answered n 0x02 { status := .ok }))) ∧
    (s.Runs n .narrow ps → ∀ (order : Nat) (r : Rights), order = field ps[1] 0 5 →
      r = { r := bit ps[2] 0, w := bit ps[2] 1, x := bit ps[2] 2 } →
      ((order < 12 ∨ 24 < order ∨ l.range.order < order ∨ r = { r := false, w := false, x := false } ∨
          r.r = true ∧ l.rights.r = false ∨ r.w = true ∧ l.rights.w = false ∨ r.x = true ∧ l.rights.x = false ∨
          l.disposition = .scrub ∧ order ≠ l.range.order) →
        exec .narrow s = .next (s.answered n 0x03 { status := .badArg })) ∧
      (12 ≤ order → order ≤ 24 → order ≤ l.range.order → (r.r = true ∨ r.w = true ∨ r.x = true) →
        (r.r = true → l.rights.r = true) → (r.w = true → l.rights.w = true) →
        (r.x = true → l.rights.x = true) → (l.disposition = .scrub → order = l.range.order) →
        exec .narrow s = .next (((s.setEntry h.entry
          { gen := h.gen
            body := .active n { l with rights := r, range := { base := l.range.base, order := order } }
              none }).setReexamine true).answered n 0x03 { status := .ok })))

/-- R100, R101, R102, R105, R107, R108: RELEASE by the owner, or REVOKE, retires the entry: draining while the owner's
access is in flight inside the range, else FREE for KEEP and in the scrub queue for SCRUB. REVOKE sets REVOKED at the
owner. -/
def Obligations.ReleaseAndRevokeRetireTheEntry : Prop :=
  ∀ (s : State) (n : AgentId) (c : Command) (ps : Vector Word 8) (h : Handle) (o : AgentId) (l : Lease)
    (x : Option AgentId), s.Runs n c ps → (c = .release ∧ o = n ∨ c = .revoke) →
    h.entry.val = field ps[0] 0 6 → h.gen.toNat = field ps[0] 8 8 →
    s.entry h.entry = { gen := h.gen, body := .active o l x } →
    ∃ t, exec c.instr s = .next
        ((if c = .revoke then t.raise .revoked o else t).answered n c.code { status := .ok }) ∧
      (∀ m, (s.port o).marker = some m →
        l.range.first ≤ m.info.addr.toNat → m.info.addr.toNat ≤ l.range.last →
        t = s.setEntry h.entry { gen := h.gen, body := .retiring (some o) l true }) ∧
      ((∀ m, (s.port o).marker = some m →
          m.info.addr.toNat < l.range.first ∨ l.range.last < m.info.addr.toNat) →
        (l.disposition = .keep →
          t = (s.setEntry h.entry { gen := h.gen, body := .free }).setReexamine true) ∧
        (l.disposition = .scrub →
          t = (s.setEntry h.entry { gen := h.gen, body := .retiring (some o) l false }).joinQueue h.entry))

/-- R109, R113, R114, R121, R122: what a join of the scrub queue does (its arrival at a free port: DEDUCED,
notes/assumptions/7.md); RETRY returns a FAULTED entry to it, and FORGET
frees the entry. A handle of an ACTIVE or FREE entry is STALE, one of a RETIRING entry RETIRED. -/
def Obligations.RetryAndForgetAndTheJoin : Prop :=
  (∀ (s : State) (i : EntryId) (l : Lease), (s.entry i).body.lease? = some l →
    (s.scrub.mode ≠ .idle → s.joinQueue i = s.setScrub
      { s.scrub with
        queue := s.scrub.queue ++ [i]
        progress := if s.scrub.queue = [] then 0 else s.scrub.progress }) ∧
    (s.scrub.mode = .idle → s.scrub.queue = [] → s.joinQueue i =
      (s.setScrub { s.scrub with mode := .running, queue := [i], progress := 0 }).setMemPort
        { s.memPort with
          chunk := some { base := l.range.base, number := 0 }
          due := if s.memPort.quiet then .arrival .chunk else s.memPort.due })) ∧
  ∀ (s : State) (n : AgentId) (c : Command) (ps : Vector Word 8) (h : Handle) (e : Entry), s.Runs n c ps →
    (c = .retry ∨ c = .forget) → h.entry.val = field ps[0] 0 6 → h.gen.toNat = field ps[0] 8 8 → s.entry h.entry = e →
    (e.gen ≠ h.gen ∨ e.body = .free ∨ (∃ o l x, e.body = .active o l x) →
      exec c.instr s = .next (s.answered n c.code { status := .stale })) ∧
    (e.gen = h.gen → (∃ o l d, e.body = .retiring o l d) →
      exec c.instr s = .next (s.answered n c.code { status := .retired })) ∧
    ∀ l, e = { gen := h.gen, body := .faulted l } →
      (c = .retry → exec .retry s = .next
        (((s.setEntry h.entry { gen := h.gen, body := .retiring none l false }).joinQueue h.entry).answered n 0x2B
          { status := .ok })) ∧
      (c = .forget → exec .forget s = .next
        (((s.setEntry h.entry { gen := h.gen, body := .free }).setReexamine true).answered n 0x2C
          { status := .ok }))

/-- R124, R125, R130: OFFER names its target and sets OFFER_IN there; DECLINE clears the offer and sets OFFER_OUT at the
owner. -/
def Obligations.OfferAndDecline : Prop :=
  ∀ (s : State) (n : AgentId) (ps : Vector Word 8) (h : Handle) (o : AgentId) (l : Lease) (x : Option AgentId),
    h.entry.val = field ps[0] 0 6 → h.gen.toNat = field ps[0] 8 8 →
    s.entry h.entry = { gen := h.gen, body := .active o l x } →
    (s.Runs n .offer ps → o = n →
      (6 ≤ field ps[1] 0 3 → exec .offer s = .next (s.answered n 0x09 { status := .badArg })) ∧
      ∀ t : AgentId, t.val = field ps[1] 0 3 →
        (t = n ∨ l.life = .pinned → exec .offer s = .next (s.answered n 0x09 { status := .badArg })) ∧
        (t ≠ n → l.life ≠ .pinned →
          ((s.profile t).enabled = false → exec .offer s = .next (s.answered n 0x09 { status := .denied })) ∧
          ((s.profile t).enabled = true → exec .offer s = .next
            (((s.setEntry h.entry { gen := h.gen, body := .active n l (some t) }).raise .offerIn t).answered n 0x09
              { status := .ok })))) ∧
    (s.Runs n .decline ps → x = some n → exec .decline s = .next
      (((s.setEntry h.entry { gen := h.gen, body := .active o l none }).raise .offerOut o).answered n 0x0B
        { status := .ok }))

/-- R127, R128: ACCEPT's checks in their order; one that passes makes the target the owner, reloads the countdown, takes
Effective away, sets OFFER_OUT at the former owner and the re-examination flag. -/
def Obligations.AcceptPassesTheLeaseOn : Prop :=
  ∀ (s : State) (n : AgentId) (ps : Vector Word 8) (h : Handle) (o : AgentId) (l : Lease), s.Runs n .accept ps →
    h.entry.val = field ps[0] 0 6 → h.gen.toNat = field ps[0] 8 8 →
    s.entry h.entry = { gen := h.gen, body := .active o l (some n) } →
    (¬s.Unguarded n l.range → exec .accept s = .next (s.answered n 0x0A { status := .guarded })) ∧
    (s.Unguarded n l.range →
      (¬s.WithinQuota n l.range → exec .accept s = .next (s.answered n 0x0A { status := .quota })) ∧
      (s.WithinQuota n l.range →
        (¬s.NoSelfOverlap n l.range → exec .accept s = .next (s.answered n 0x0A { status := .selfOverlap })) ∧
        (s.NoSelfOverlap n l.range → ∃ (life : Life) (slot : Option Slot),
          (l.life = .pinned → life = .pinned) ∧
          (∀ m k, l.life = .timed m k → life = .timed m { k with remaining := k.term, warned := false }) ∧
          (l.slot = none → slot = none) ∧
          (∀ y, l.slot = some y → slot = some { phase := y.phase, effective := false }) ∧
          exec .accept s = .next ((((s.setEntry h.entry
            { gen := h.gen, body := .active n { l with life := life, slot := slot } none }).raise
              .offerOut o).setReexamine true).answered n 0x0A { status := .ok }))))

/-! ## Commands that read -/

/-- R56, R60, R61, R62: the codes of a result, QUERY's checks, and its two views. The values are those the words
carry, with every unassigned bit 0. -/
def Obligations.QueryReportsTheEntry : Prop :=
  (∀ (o : AgentId) (p : Phase) (l : Lease) (t f : Option AgentId) (d : Bool),
    orSeven (some o) = o.val ∧ orSeven (none : Option AgentId) = 7 ∧ orSeven (some p) = p.val ∧
      orSeven (none : Option Phase) = 7 ∧
      EntryBody.stateCode .free = 0 ∧ (EntryBody.active o l t).stateCode = 1 ∧
      (EntryBody.retiring f l d).stateCode = 2 ∧ (EntryBody.faulted l).stateCode = 3 ∧
      (EntryBody.active o l t).owner? = some o ∧ (EntryBody.retiring f l d).owner? = f ∧
      (EntryBody.faulted l).owner? = none ∧ (EntryBody.active o l t).offer? = t ∧
      (EntryBody.retiring f l d).offer? = none ∧ (EntryBody.faulted l).offer? = none ∧
      (EntryBody.active o l t).drainBit = false ∧ (EntryBody.retiring f l d).drainBit = d ∧
      (EntryBody.faulted l).drainBit = false) ∧
  (∀ (r : Rights) (m : Timed) (k : Countdown),
    r.code = r.r.toNat + 2 * r.w.toNat + 4 * r.x.toNat ∧ Floor.code .any = 0 ∧ Floor.code .priv = 1 ∧
      Share.code .exclusive = 0 ∧ Share.code .sharedRead = 1 ∧ Share.code .shared = 2 ∧
      (Life.timed .fixed k).modeCode = 0 ∧ (Life.timed .activity k).modeCode = 1 ∧ Life.modeCode .pinned = 2 ∧
      Disposition.code .keep = 0 ∧ Disposition.code .scrub = 1 ∧ (Life.timed m k).countdown = k ∧
      Life.countdown .pinned = { term := 0, warn := 0, remaining := 0, warned := false }) ∧
  ∀ (s : State) (n : AgentId) (ps : Vector Word 8) (h : Handle) (e : Entry), s.Runs n .query ps → s.FieldLaw →
    s.CountdownLaw → h.entry.val = field ps[0] 0 6 → h.gen.toNat = field ps[0] 8 8 → s.entry h.entry = e →
    (e.gen ≠ h.gen ∨ e.body = .free → exec .query s = .next (s.answered n 0x05 { status := .stale })) ∧
    ∀ l, e.gen = h.gen → e.body.lease? = some l →
      (n ≠ 0 → e.body.owner? ≠ some n → e.body.offer? ≠ some n →
        exec .query s = .next (s.answered n 0x05 { status := .notOwner })) ∧
      (n = 0 ∨ e.body.owner? = some n ∨ e.body.offer? = some n → ∃ r0 r1 r2 : Word,
        exec .query s = .next (s.answered n 0x05 { status := .ok, r0 := r0, r1 := r1, r2 := r2 }) ∧
        r0.toNat = e.gen.toNat + 2 ^ 8 * orSeven e.body.owner? + 2 ^ 11 * e.body.drainBit.toNat
          + 2 ^ 12 * (l.range.base.toNat / 4096) + 2 ^ 24 * l.range.order
          + 2 ^ 29 * l.life.countdown.warned.toNat + 2 ^ 30 * e.body.stateCode ∧
        (bit ps[1] 0 = false →
          r1.toNat = l.life.countdown.remaining + 2 ^ 16 * l.life.countdown.term ∧
          r2.toNat = l.life.countdown.warn + 2 ^ 16 * l.rights.code + 2 ^ 19 * l.floor.code
            + 2 ^ 20 * l.share.code + 2 ^ 22 * l.life.modeCode + 2 ^ 24 * l.disposition.code
            + 2 ^ 25 * orSeven l.phase
            + 2 ^ 28 * (match l.slot with | some y => y.effective.toNat | none => 0)
            + 2 ^ 29 * orSeven e.body.offer?) ∧
        (bit ps[1] 0 = true → s.scrub.progress ≤ 65536 →
          r1.toNat = (if s.scrub.queue.head? = some h.entry then s.scrub.progress + 2 ^ 31 else 0)
            + (if h.entry ∈ s.scrub.queue then 2 ^ 30 else 0) ∧
          r2.toNat = 2 ^ (l.range.order - 8)))

/-- R57, R60, R62: FIND's checks, and the lowest-numbered entry from its start that its selector matches, with its
handle and the number of its state. -/
def Obligations.FindWalksTheTable : Prop :=
  ∀ (s : State) (n : AgentId) (ps : Vector Word 8) (start : EntryId), s.Runs n .find ps →
    start.val = field ps[0] 0 6 →
    (bit ps[1] 7 = false → 6 ≤ field ps[1] 0 3 → exec .find s = .next (s.answered n 0x06 { status := .badArg })) ∧
    (n ≠ 0 → (bit ps[1] 7 = true ∨ field ps[1] 0 3 < 6 ∧ field ps[1] 0 3 ≠ n.val) →
      exec .find s = .next (s.answered n 0x06 { status := .denied })) ∧
    ∀ hit : EntryId → Prop,
      (bit ps[1] 7 = true ∧ n = 0 ∧ (∀ i, hit i ↔ (s.entry i).body ≠ .free) ∨
        bit ps[1] 7 = false ∧ ∃ m : AgentId, m.val = field ps[1] 0 3 ∧ (n = 0 ∨ m = n) ∧
          ∀ i, hit i ↔ (∃ l x, (s.entry i).body = .active m l x) ∨ ∃ l d, (s.entry i).body = .retiring (some m) l d) →
      ((∀ i, start ≤ i → ¬hit i) →
        exec .find s = .next (s.answered n 0x06 { status := .ok, r0 := 0x80000000 })) ∧
      ∀ i, start ≤ i → hit i → (∀ j, start ≤ j → j < i → ¬hit j) →
        ∃ r1 : Word,
          exec .find s = .next (s.answered n 0x06
            { status := .ok, r0 := BitVec.ofNat 32 (i.val + 256 * (s.entry i).gen.toNat), r1 := r1 }) ∧
          (∀ o l x, (s.entry i).body = .active o l x → r1 = 1) ∧
          (∀ o l d, (s.entry i).body = .retiring o l d → r1 = 2) ∧ ∀ l, (s.entry i).body = .faulted l → r1 = 3

/-- R58, R41, R62: PROFILE reports an agent's profile, holdings and wait entries; FAULT reports the latch and empties
it, and leaves the FAULT cause. -/
def Obligations.ProfileAndFaultReport : Prop :=
  ∀ (s : State) (n : AgentId) (ps : Vector Word 8),
    (s.Runs n .profile ps → s.ProfileLaw → s.QuotaLaw → s.WaitLaw →
      (6 ≤ field ps[0] 0 3 → exec .profile s = .next (s.answered n 0x0D { status := .badArg })) ∧
      ∀ m : AgentId, m.val = field ps[0] 0 3 →
        (n ≠ 0 → m ≠ n → exec .profile s = .next (s.answered n 0x0D { status := .denied })) ∧
        (n = 0 ∨ m = n → ∃ r0 r1 r2 : Word,
          exec .profile s = .next (s.answered n 0x0D { status := .ok, r0 := r0, r1 := r1, r2 := r2 }) ∧
          r0.toNat = (s.profile m).enabled.toNat + 2 * (s.profile m).locked.toNat
            + 2 ^ 8 * (s.profile m).leaseQuota + 2 ^ 16 * (s.profile m).pageQuota ∧
          r1.toNat = s.leasesHeld m + 2 ^ 16 * s.pagesHeld m ∧
          r2.toNat = (s.profile m).status.toNat + 2 ^ 16 * (s.profile m).enable.toNat
            + 2 ^ 28 * s.waitsHeld m + 2 ^ 31 * (s.profile m).latch.isSome.toNat)) ∧
    (s.Runs n .fault ps →
      ((s.profile n).latch = none → exec .fault s = .next (s.answered n 0x0C { status := .ok })) ∧
      ∀ x, (s.profile n).latch = some x → ∃ (r0 r1 : Word) (kind size priv reason : Nat),
        exec .fault s = .next ((s.setProfile n { s.profile n with latch := none }).answered n 0x0C
          { status := .ok, r0 := r0, r1 := r1 }) ∧
        r0.toNat = x.info.addr.toNat + 2 ^ 24 * kind + 2 ^ 26 * size + 2 ^ 28 * priv + 2 ^ 31 ∧
        r1.toNat = reason + 2 ^ 8 * x.further.toNat ∧
        (x.info.kind = .dataRead → kind = 0) ∧ (x.info.kind = .dataWrite → kind = 1) ∧
        (x.info.kind = .fetch → kind = 2) ∧ (x.info.size = .one → size = 0) ∧ (x.info.size = .two → size = 1) ∧
        (x.info.size = .four → size = 2) ∧ (x.info.priv = .p → priv = 0) ∧ (x.info.priv = .u → priv = 1) ∧
        (x.reason = .misaligned → reason = 1) ∧ (x.reason = .disabled → reason = 2) ∧
        (x.reason = .noLease → reason = 3) ∧ (x.reason = .rights → reason = 4) ∧
        (x.reason = .privilege → reason = 5) ∧ (x.reason = .outOfPhase → reason = 6) ∧
        (x.reason = .memory → reason = 7))

/-- R84, R95, R96, R60: COLLECT frees a RESOLVED entry and reports its outcome; CANCEL frees a WAITING one and sets the
re-examination flag. Refused ones change nothing. -/
def Obligations.CollectAndCancel : Prop :=
  ∀ (s : State) (n : AgentId) (c : Command) (ps : Vector Word 8) (w : WaitId) (g : BitVec 4) (e : WaitEntry),
    s.Runs n c ps → (c = .collect ∨ c = .cancel) → w.val = field ps[0] 0 4 → g.toNat = field ps[0] 4 4 →
    s.wait w = e →
    (e.body = .free ∨ e.gen ≠ g → exec c.instr s = .next (s.answered n c.code { status := .stale })) ∧
    (e.body ≠ .free → e.gen = g → e.body.requester? ≠ some n →
      exec c.instr s = .next (s.answered n c.code { status := .notOwner })) ∧
    (∀ q d, e = { gen := g, body := .waiting n q d } →
      (c = .collect → exec .collect s = .next (s.answered n 0x07 { status := .stillWaiting })) ∧
      (c = .cancel → exec .cancel s = .next
        ((((s.setWait w { gen := g, body := .free }).setWaitOrder
          (s.waits.order.filter (· != w))).setReexamine true).answered n 0x08 { status := .ok }))) ∧
    ∀ q o, e = { gen := g, body := .resolved n q o } → w ∉ s.waits.order →
      (c = .cancel → exec .cancel s = .next (s.answered n 0x08 { status := .retired })) ∧
      (c = .collect → ∃ r0 r1 : Word,
        exec .collect s = .next ((s.setWait w { gen := g, body := .free }).answered n 0x07
          { status := .ok, r0 := r0, r1 := r1 }) ∧
        (∀ k, o = .granted k → r0 = 1 ∧ r1.toNat = k.entry.val + 2 ^ 8 * k.gen.toNat) ∧
        (o = .timedOut → r0 = 2 ∧ r1 = 0) ∧ (o = .guarded → r0 = 3 ∧ r1 = 0) ∧
        (o = .denied → r0 = 4 ∧ r1 = 0))

/-! ## Policy commands -/

/-- R33, R173, R174: DETACH is a detach event of another agent, and changes nothing where that window is DETACHING. That
a cycle held off behind the marker stays held off is the model's reading of R174 (DESIGN CHOICE,
notes/assumptions/27.md). -/
def Obligations.DetachIsADetachEvent : Prop :=
  ∀ (s : State) (n : AgentId) (ps : Vector Word 8), s.Runs n .detach ps →
    (field ps[0] 0 3 = 0 ∨ 6 ≤ field ps[0] 0 3 →
      exec .detach s = .next (s.answered n 0x21 { status := .badArg })) ∧
    ∀ m : AgentId, m.val = field ps[0] 0 3 → m ≠ 0 →
      ((s.port m).window = .detaching → exec .detach s = .next (s.answered n 0x21 { status := .ok })) ∧
      ((s.port m).window ≠ .detaching → exec .detach s = .next
        (((s.setPort m
          { s.port m with
            window := .detaching
            marker := (s.port m).marker.map fun k => { k with discard := true }
            memAnswer :=
              ((s.port m).marker.map fun k =>
                BusAnswer.busError (if k.info.kind = .dataWrite then none else some 0)).or
                (s.port m).memAnswer }).setJobList
          (s.manager.list ++ [m])).answered n 0x21 { status := .ok }))

/-- R161, R162, R164: SET-PROFILE's checks in their order and what it writes; LOCK-PROFILE. -/
def Obligations.SetProfileAndLockProfile : Prop :=
  ∀ (s : State) (n : AgentId) (ps : Vector Word 8),
    (s.Runs n .setProfile ps → ∀ (enabled : Bool) (leases pages : Nat), enabled = bit ps[1] 0 →
      leases = field ps[1] 8 7 → pages = field ps[1] 16 13 →
      (6 ≤ field ps[0] 0 3 → exec .setProfile s = .next (s.answered n 0x22 { status := .badArg })) ∧
      ∀ m : AgentId, m.val = field ps[0] 0 3 →
        ((s.profile m).locked = true → exec .setProfile s = .next (s.answered n 0x22 { status := .locked })) ∧
        ((s.profile m).locked = false →
          (m = 0 ∧ enabled = false ∨ 64 < leases ∨ 4096 < pages →
            exec .setProfile s = .next (s.answered n 0x22 { status := .badArg })) ∧
          ((m = 0 → enabled = true) → leases ≤ 64 → pages ≤ 4096 →
            (leases < s.leasesHeld m ∨ pages < s.pagesHeld m →
              exec .setProfile s = .next (s.answered n 0x22 { status := .quota })) ∧
            (s.leasesHeld m ≤ leases → s.pagesHeld m ≤ pages → exec .setProfile s = .next
              (((s.setProfile m
                { s.profile m with enabled := enabled, leaseQuota := leases, pageQuota := pages }).setReexamine
                  true).answered n 0x22 { status := .ok }))))) ∧
    (s.Runs n .lockProfile ps →
      (6 ≤ field ps[0] 0 3 → exec .lockProfile s = .next (s.answered n 0x23 { status := .badArg })) ∧
      ∀ m : AgentId, m.val = field ps[0] 0 3 → exec .lockProfile s = .next
        ((s.setProfile m { s.profile m with locked := true }).answered n 0x23 { status := .ok }))

/-- R166, R167: SET-GUARD's checks in their order and what it writes. The entries are read as they stand; that a KEEP
entry which a tick has expired can be FREE by then is the model's reading (notes/assumptions/23.md). -/
def Obligations.SetGuardWritesASpan : Prop :=
  ∀ (s : State) (n : AgentId) (ps : Vector Word 8) (g : GuardId) (r : Range), s.Runs n .setGuard ps →
    g.val = field ps[0] 0 2 → r.base.toNat = field ps[1] 0 24 → r.order = field ps[2] 0 5 →
    ((s.guard g).locked = true → exec .setGuard s = .next (s.answered n 0x24 { status := .locked })) ∧
    ((s.guard g).locked = false →
      (r.order < 12 ∨ 24 < r.order ∨ r.base.toNat % 2 ^ r.order ≠ 0 →
        exec .setGuard s = .next (s.answered n 0x24 { status := .badArg })) ∧
      (12 ≤ r.order → r.order ≤ 24 → r.base.toNat % 2 ^ r.order = 0 →
        (bit ps[3] 0 = true →
          (∃ i o l, (s.entry i).body.owner? = some o ∧ o ≠ 0 ∧ (s.entry i).body.lease? = some l ∧
            l.range.overlaps r = true) →
          exec .setGuard s = .next (s.answered n 0x24 { status := .conflict })) ∧
        ((bit ps[3] 0 = true → ∀ i o l, (s.entry i).body.owner? = some o → o ≠ 0 →
            (s.entry i).body.lease? = some l → l.range.overlaps r = false) →
          exec .setGuard s = .next (((s.setGuard g
            { enabled := bit ps[3] 0, range := r, locked := bit ps[3] 1 }).setReexamine true).answered n 0x24
            { status := .ok }))))

/-- R135, R136, R137: SET-TIMEBASE replaces P and D and restarts the divider; TIMEBASE-STOP halts it with its count;
TIMEBASE-START restarts a stopped one, and changes nothing of a running one. -/
def Obligations.TimebaseCommands : Prop :=
  ∀ (s : State) (n : AgentId) (ps : Vector Word 8),
    (s.Runs n .setTimebase ps → exec .setTimebase s = .next ((s.setTimebase
      { p := field ps[0] 0 4, d := field ps[0] 16 12, running := s.timebase.running, count := 0 }).answered n 0x25
      { status := .ok })) ∧
    (s.Runs n .timebaseStop ps → exec .timebaseStop s = .next
      ((s.setTimebase { s.timebase with running := false }).answered n 0x26 { status := .ok })) ∧
    (s.Runs n .timebaseStart ps →
      (s.timebase.running = true → exec .timebaseStart s = .next (s.answered n 0x27 { status := .ok })) ∧
      (s.timebase.running = false → exec .timebaseStart s = .next
        ((s.setTimebase { s.timebase with running := true, count := 0 }).answered n 0x27 { status := .ok })))

/-- R153, R154, R150: SET-PHASES leaves the lengths pending, or, with the sequencer NONE and the Timebase running,
adopts them at once and opens the first phase that is not skipped, in the completion's own claim, after the sequencer
claims on their way (DEDUCED, notes/assumptions/5.md). -/
def Obligations.SetPhasesPendingOrAtOnce : Prop :=
  ∀ (s : State) (n : AgentId) (ps : Vector Word 8) (v : Vector Nat 4), s.Runs n .setPhases ps →
    v = #v[field ps[0] 0 12, field ps[1] 0 12, field ps[2] 0 12, field ps[3] 0 12] →
    (s.phases.current ≠ none ∨ s.timebase.running = false → exec .setPhases s = .next
      ((s.setPhases { s.phases with pending := v, pendingFlag := true }).answered n 0x28 { status := .ok })) ∧
    (s.phases.current = none → s.timebase.running = true →
      ((∀ p : Phase, v[p] = 0) → exec .setPhases s = .next
        ((s.setPhases { s.phases with active := v, pending := v, pendingFlag := false }).answered n 0x28
          { status := .ok })) ∧
      ∀ p : Phase, v[p] ≠ 0 → (∀ r : Phase, r < p → v[r] = 0) →
        ∃ t : State, exec .setPhases s = .next (t.answered n 0x28 { status := .ok }) ∧
          t.phases =
            { current := some p, ticksLeft := v[p], active := v, pending := v, pendingFlag := false,
              ticksDue := s.phases.ticksDue } ∧
          t.leases.inForce = some p ∧ t.leases.sequencerClaims = [] ∧ t.leases.ticksDue = s.leases.ticksDue ∧
          (∀ i g o l y x, s.entry i = { gen := g, body := .active o l y } → l.slot = some x → x.phase = p →
            t.entry i =
              { gen := g, body := .active o { l with slot := some { phase := p, effective := true } } y }) ∧
          ((∀ k ∈ s.leases.sequencerClaims, k = .none) →
            ∀ i, (∀ o l y x, (s.entry i).body = .active o l y → l.slot = some x → x.phase ≠ p) →
              t.entry i = s.entry i) ∧
          t.ports = s.ports ∧ t.waits = s.waits ∧ t.manager = s.manager ∧ t.profiles = s.profiles ∧
          t.guards = s.guards ∧ t.scrub = s.scrub ∧ t.timebase = s.timebase ∧ t.memPort = s.memPort ∧
          t.sram = s.sram)

/-- R116, R117: SCRUB-HOLD and SCRUB-GO by the engine's state (the chunk's arrival at a free port: DEDUCED,
notes/assumptions/7.md). -/
def Obligations.ScrubHoldAndScrubGo : Prop :=
  ∀ (s : State) (n : AgentId) (ps : Vector Word 8),
    (s.Runs n .scrubHold ps →
      (s.scrub.mode = .idle → exec .scrubHold s = .next
        ((s.setScrub { s.scrub with mode := .suspended }).answered n 0x29 { status := .ok, r0 := 0 })) ∧
      (s.scrub.mode = .running → s.scrub.holdPending = true →
        exec .scrubHold s = .next (s.answered n 0x29 { status := .ok, r0 := 1 })) ∧
      (s.scrub.mode = .running → s.scrub.holdPending = false → s.scrub.sinceGo < 4 → exec .scrubHold s = .next
        ((s.setScrub { s.scrub with holdPending := true }).answered n 0x29 { status := .ok, r0 := 1 })) ∧
      (s.scrub.mode = .running → s.scrub.holdPending = false → 4 ≤ s.scrub.sinceGo → exec .scrubHold s = .next
        ((s.setScrub { s.scrub with mode := .suspending }).answered n 0x29 { status := .ok, r0 := 0 })) ∧
      (s.scrub.mode = .suspending ∨ s.scrub.mode = .suspended →
        exec .scrubHold s = .next (s.answered n 0x29 { status := .ok, r0 := 0 }))) ∧
    (s.Runs n .scrubGo ps →
      (s.scrub.mode = .suspended → s.scrub.queue = [] → exec .scrubGo s = .next
        ((s.setScrub { s.scrub with mode := .idle, sinceGo := 0 }).answered n 0x2A { status := .ok })) ∧
      (∀ i rest l, s.scrub.mode = .suspended → s.scrub.queue = i :: rest → (s.entry i).body.lease? = some l →
        exec .scrubGo s = .next (((s.setScrub { s.scrub with mode := .running, sinceGo := 0 }).setMemPort
          { s.memPort with
            chunk := some { base := l.range.base, number := s.scrub.progress }
            due := if s.memPort.quiet then .arrival .chunk else s.memPort.due }).answered n 0x2A
          { status := .ok })) ∧
      (s.scrub.mode = .running → s.scrub.holdPending = true → exec .scrubGo s = .next
        ((s.setScrub { s.scrub with holdPending := false }).answered n 0x2A { status := .ok })) ∧
      (s.scrub.mode = .suspending → exec .scrubGo s = .next
        ((s.setScrub { s.scrub with mode := .running }).answered n 0x2A { status := .ok })) ∧
      (s.scrub.mode = .idle ∨ s.scrub.mode = .running ∧ s.scrub.holdPending = false →
        exec .scrubGo s = .next (s.answered n 0x2A { status := .notHeld })))

/-! ## Time -/

/-- R134, R150: a tick is produced while the Timebase runs, and delivered to three blocks; the Lease Table takes the
sequencer's oldest claim (the stages of a tick: DEDUCED, notes/assumptions/4.md). R134 has the divider produce a tick at
the clock that ends its period; that the row may come at any count is the model's (DESIGN CHOICE,
notes/assumptions/3.md). -/
def Obligations.TickProductionAndSequencerClaims : Prop :=
  ∀ s : State,
    (s.timebase.running = true → s.resetAsserted = false → exec (.tick .produced) s = .next { s with
      timebase := { s.timebase with count := 0 }
      leases := { s.leases with ticksDue := s.leases.ticksDue + 1 }
      waits := { s.waits with ticksDue := s.waits.ticksDue + 1 }
      phases := { s.phases with ticksDue := s.phases.ticksDue + 1 } }) ∧
    (s.timebase.running = false ∨ s.resetAsserted = true → exec (.tick .produced) s = .next s) ∧
    (∀ rest, s.leases.sequencerClaims = .none :: rest → exec .noneClaim s = .next { s with
      leases := { s.leases with inForce := none, sequencerClaims := rest } }) ∧
    ∀ p rest, s.leases.sequencerClaims = .opening p :: rest → ∃ t, exec .opening s = .next t ∧
      t = { s with leases := t.leases } ∧
      t.leases =
        { entries := t.leases.entries, inForce := some p, ticksDue := s.leases.ticksDue,
          sequencerClaims := rest } ∧
      (∀ i g o l y x, s.entry i = { gen := g, body := .active o l y } → l.slot = some x → x.phase = p →
        t.entry i = { gen := g, body := .active o { l with slot := some { phase := p, effective := true } } y }) ∧
      ∀ i, (∀ o l y x, (s.entry i).body = .active o l y → l.slot = some x → x.phase ≠ p) → t.entry i = s.entry i

/-- R139, R140, R142, R103: one tick at the Lease Table. Every ACTIVE entry that counts goes down by one, is warned at
Warn and expires at 0; no other entry changes. WARN and LAPSE are set at the owners alone, and the re-examination flag
is set exactly where an expired KEEP entry becomes FREE (R6; for such an entry beside R73, R94, R166 and R168 see
notes/assumptions/23.md). That the first tick after a stop counts like any other is R139's count beside R146 (DESIGN
CHOICE, notes/assumptions/26.md). EXPIRY is that same claim (DEDUCED, notes/assumptions/4.md). -/
def Obligations.TickCountsLeasesDown : Prop :=
  ∀ (s : State) (k : Nat), s.leases.ticksDue = k + 1 →
    ∃ t, exec (.tick .leaseTable) s = .next t ∧
      (∀ i o l m c x, (s.entry i).body = .active o l x → l.life = .timed m c → c.remaining = 1 →
        exec .expiry s = .next t) ∧
      t.leases.ticksDue = k ∧ t.leases.inForce = s.leases.inForce ∧
      t.leases.sequencerClaims = s.leases.sequencerClaims ∧
      (∀ i g o l x m c, s.entry i = { gen := g, body := .active o l x } → l.life = .timed m c →
        (1 < c.remaining →
          (c.remaining - 1 = c.warn → Cause.warn.isIn (t.profile o).status = true) ∧
          t.entry i =
            { gen := g
              body := .active o
                { l with
                  life := .timed m
                    { c with
                      remaining := c.remaining - 1
                      warned := if c.remaining - 1 = c.warn then true else c.warned } } x }) ∧
        (c.remaining = 1 → Cause.lapse.isIn (t.profile o).status = true ∧
          ∀ r : Lease, r = { l with life := .timed m { c with remaining := 0 } } →
            t.entry i =
              { gen := g
                body :=
                  if s.inFlight o l.range = true then .retiring (some o) r true
                  else if l.disposition = .keep then .free
                  else .retiring (some o) r false })) ∧
      (∀ i, (∀ o l x m c, (s.entry i).body = .active o l x → l.life ≠ .timed m c) → t.entry i = s.entry i) ∧
      ((∀ i o l x m c, (s.entry i).body = .active o l x → l.life = .timed m c → 1 ≤ c.remaining) →
        ∃ joined : List EntryId, t.scrub.queue = s.scrub.queue ++ joined ∧ joined.Pairwise (· < ·) ∧
          ∀ i, i ∈ joined ↔ ∃ o l x m c, (s.entry i).body = .active o l x ∧ l.life = .timed m c ∧
            c.remaining = 1 ∧ l.disposition = .scrub ∧ s.inFlight o l.range = false) ∧
      (∀ n, t.profile n = { s.profile n with status := (t.profile n).status } ∧
        (∀ b, b ≠ 2 → b ≠ 3 → (t.profile n).status.getLsbD b = (s.profile n).status.getLsbD b) ∧
        ((∀ i l x m c, (s.entry i).body = .active n l x → l.life = .timed m c → 1 < c.remaining →
            c.remaining - 1 ≠ c.warn) →
          (t.profile n).status.getLsbD 2 = (s.profile n).status.getLsbD 2) ∧
        ((∀ i l x m c, (s.entry i).body = .active n l x → l.life = .timed m c → 1 < c.remaining) →
          (t.profile n).status.getLsbD 3 = (s.profile n).status.getLsbD 3)) ∧
      (∀ i o l x m c, (s.entry i).body = .active o l x → l.life = .timed m c → c.remaining = 1 →
        l.disposition = .keep → s.inFlight o l.range = false → t.manager.reexamine = true) ∧
      ((∀ i o l x m c, (s.entry i).body = .active o l x → l.life = .timed m c → c.remaining ≤ 1 →
          l.disposition = .keep → s.inFlight o l.range = true) →
        t.manager.reexamine = s.manager.reexamine) ∧
      t.ports = s.ports ∧ t.waits = s.waits ∧ t.guards = s.guards ∧ t.timebase = s.timebase ∧
      t.phases = s.phases ∧ t.sram = s.sram ∧ t.manager = { s.manager with reexamine := t.manager.reexamine }

/-- R87, R89: one tick at the Wait List. Every present deadline goes down by one, and at 0 the entry is resolved
TIMED_OUT and leaves the waiting order, with GRANT set at its requester and at no other agent; a pass with nothing
left to examine ends in this claim (DEDUCED, notes/assumptions/15.md). WAIT_TIMEOUT is that same claim (DEDUCED,
notes/assumptions/4.md). -/
def Obligations.TickCountsDeadlinesDown : Prop :=
  ∀ (s : State) (k : Nat), s.waits.ticksDue = k + 1 →
    ∃ t, exec (.tick .waitList) s = .next t ∧
      ((∃ w n q, (s.wait w).body = .waiting n q (some 1)) → exec .waitTimeout s = .next t) ∧
      t.waits.ticksDue = k ∧
      (∀ w g n q d, s.wait w = { gen := g, body := .waiting n q (some d) } →
        (1 < d → t.wait w = { gen := g, body := .waiting n q (some (d - 1)) }) ∧
        (d = 1 → t.wait w = { gen := g, body := .resolved n q .timedOut } ∧
          Cause.grant.isIn (t.profile n).status = true)) ∧
      (∀ w, (∀ n q d, (s.wait w).body ≠ .waiting n q (some d)) → t.wait w = s.wait w) ∧
      t.waits.order = s.waits.order.filter (fun w => !(s.wait w).body.timesOutNext) ∧
      (∀ todo, s.manager.job = some (.pass todo) →
        t.manager.job = if ∃ v ∈ todo, v ∈ t.waits.order then some (.pass todo) else none) ∧
      ((∀ todo, s.manager.job ≠ some (.pass todo)) → t.manager.job = s.manager.job) ∧
      t.manager = { s.manager with job := t.manager.job } ∧
      (∀ n, t.profile n = { s.profile n with status := (t.profile n).status } ∧
        (∀ b, b ≠ 1 → (t.profile n).status.getLsbD b = (s.profile n).status.getLsbD b) ∧
        ((∀ w q d, (s.wait w).body = .waiting n q (some d) → 1 < d) → t.profile n = s.profile n)) ∧
      t.ports = s.ports ∧ t.leases = s.leases ∧ t.guards = s.guards ∧ t.scrub = s.scrub ∧
      t.timebase = s.timebase ∧ t.phases = s.phases ∧ t.memPort = s.memPort ∧ t.sram = s.sram

/-- R148, R149: one tick at the Phase Sequencer. The phase counts down; at its end the first later phase that is not
skipped opens, or the boundary is passed, where pending lengths are adopted. That a tick produced before a TIMEBASE-STOP
and taken in the stop does so too, in NONE with lengths pending, is the model's reading beside R153 and R154 (DESIGN
CHOICE, notes/assumptions/24.md). PHASE_ADVANCE is that same claim (DEDUCED, notes/assumptions/4.md). -/
def Obligations.TickAdvancesTheSequencer : Prop :=
  ∀ (s : State) (k : Nat) (q : PhaseSequencer), s.phases.ticksDue = k + 1 → q = { s.phases with ticksDue := k } →
    (q.current = none → q.pendingFlag = false → exec (.tick .phaseSequencer) s = .next (s.setPhases q)) ∧
    (∀ c, q.current = some c → 1 < q.ticksLeft →
      exec (.tick .phaseSequencer) s = .next (s.setPhases { q with ticksLeft := q.ticksLeft - 1 })) ∧
    (∀ c, q.current = some c → q.ticksLeft = 1 →
      exec .phaseAdvance s = exec (.tick .phaseSequencer) s ∧
      ∀ p, c < p → q.active[p] ≠ 0 → (∀ r, c < r → r < p → q.active[r] = 0) →
        ∀ e : Instr, e = .tick .phaseSequencer ∨ e = .phaseAdvance → exec e s = .next
          ((s.setPhases { q with current := some p, ticksLeft := q.active[p] }).setSequencerClaims
            (s.leases.sequencerClaims ++ [.opening p]))) ∧
    (∀ v : Vector Nat 4, v = (if q.pendingFlag then q.pending else q.active) →
      (q.current = none ∧ q.pendingFlag = true ∨
        q.ticksLeft = 1 ∧ ∃ c, q.current = some c ∧ ∀ r, c < r → q.active[r] = 0) →
      (∀ p, v[p] ≠ 0 → (∀ r, r < p → v[r] = 0) → exec (.tick .phaseSequencer) s = .next
        ((s.setPhases
          { q with current := some p, ticksLeft := v[p], active := v, pendingFlag := false }).setSequencerClaims
          (s.leases.sequencerClaims ++ [.opening p]))) ∧
      ((∀ p : Phase, v[p] = 0) → exec (.tick .phaseSequencer) s = .next
        ((s.setPhases { q with current := none, ticksLeft := 0, active := v, pendingFlag := false }).setSequencerClaims
          (s.leases.sequencerClaims ++ if q.current = none then [] else [.none]))))

/-! ## The laws -/

/-- R10, R13: overlap is having a byte in common, and the compatibility rule. -/
def Obligations.CompatibilityRule : Prop :=
  ∀ (r₁ r₂ : Range) (s₁ s₂ : Share) (p₁ p₂ : Option Phase),
    (r₁.overlaps r₂ = true ↔ ∃ b : Nat, r₁.base.toNat ≤ b ∧ b < r₁.base.toNat + 2 ^ r₁.order ∧
      r₂.base.toNat ≤ b ∧ b < r₂.base.toNat + 2 ^ r₂.order) ∧
    (compatible r₁ s₁ p₁ r₂ s₂ p₂ = true ↔
      r₁.overlaps r₂ = false ∨ (∃ p q, p₁ = some p ∧ p₂ = some q ∧ p ≠ q) ∨
        s₁ = .sharedRead ∧ s₂ = .sharedRead ∨ s₁ = .shared ∧ s₂ = .shared)

/-- R15: any two entries that are not FREE and overlap are compatible, at device reset and after every step. -/
def Obligations.CompatibilityIsKept : Prop :=
  State.reset.CompatibilityLaw ∧ ∀ s t : State, s.CompatibilityLaw → step s = .next t → t.CompatibilityLaw

/-- R160: no agent's holdings exceed its quotas, at device reset and after every step. -/
def Obligations.QuotasAreKept : Prop :=
  State.reset.QuotaLaw ∧ ∀ s t : State, s.QuotaLaw → step s = .next t → t.QuotaLaw

/-- R68, R71, R127, R165: no step gives an agent two overlapping ACTIVE leases, or another agent than 0 a lease over an
enabled guard span. -/
def Obligations.SelfOverlapAndGuardsAreKept : Prop :=
  ∀ s t : State, s.SelfOverlapLaw → s.GuardLaw → step s = .next t → t.SelfOverlapLaw ∧ t.GuardLaw

/-- R1, R2, R5, R11, R12, R64, R140, R142: every step keeps the fields of leases and of requests in their ranges, the
countdowns consistent, and PINNED leases agent 0's. -/
def Obligations.FieldsAndCountdownsAreKept : Prop :=
  ∀ s t : State, s.FieldLaw → s.CountdownLaw → s.OwnerLaw → step s = .next t →
    t.FieldLaw ∧ t.CountdownLaw ∧ t.OwnerLaw

/-- R109, R110, R113, R116: every step keeps the scrub queue exact, and exactly the chunk outstanding that the engine's
state asks for. -/
def Obligations.ScrubQueueAndEngineAreKept : Prop :=
  ∀ s t : State, s.ScrubQueueLaw → s.EngineLaw → step s = .next t → t.ScrubQueueLaw ∧ t.EngineLaw

/-- R45, R50, R51, R83, R85, R172, R178: every step keeps the waiting order exact, and the Lease Manager, the windows
and the AGRSTn lines in agreement. -/
def Obligations.WaitListAndManagerAreKept : Prop :=
  ∀ s t : State, step s = .next t → (s.WaitLaw → t.WaitLaw) ∧ (s.ManagerLaw → t.ManagerLaw)

/-- R32, R36, R107, R180, R181, R182: every step keeps each marker equal to the port's one forwarded access, a draining
entry's access in flight, and the Memory Port's limits. -/
def Obligations.MarkersDrainsAndMemoryPortAreKept : Prop :=
  ∀ s t : State, step s = .next t →
    (s.MarkerLaw → t.MarkerLaw) ∧ (s.DrainLaw → t.DrainLaw) ∧ (s.MemoryPortLaw → t.MemoryPortLaw)

/-- R133, R147, R150: every step keeps the sequencer's and the Timebase's fields in their ranges, and the phase in force
in step with the current phase. -/
def Obligations.SequencerAndTimebaseAreKept : Prop :=
  ∀ s t : State, step s = .next t → (s.SequencerLaw → t.SequencerLaw) ∧ (s.TimebaseLaw → t.TimebaseLaw)

/-- R42, R120, R53, R159, R161: every step keeps the level-like causes set while their conditions hold, agent 0 enabled,
and the quotas in their ranges. The last clause is no rule of the spec: that the list which holds the SRAM array stays
canonical is the model's own representation of it (DESIGN CHOICE, notes/assumptions/8.md). -/
def Obligations.CausesProfilesAndMemoryAreKept : Prop :=
  ∀ s t : State, step s = .next t →
    (s.CauseLaw → t.CauseLaw) ∧ (s.ProfileLaw → t.ProfileLaw) ∧ (s.MemoryLaw → t.MemoryLaw)
end

