-- ==== Sys2Proof/Laws/Operands.lean ====
section
/-! SUPPORT. What ranges and the compatibility rule say (R10, R13), and the value of a word packed of fields that do not
overlap (R59 to R62). -/

namespace Sys2Proof.Machine

/-! ## Ranges -/

theorem Range.overlaps_iff (a b : Range) : a.overlaps b = true ↔ a.first ≤ b.last ∧ b.first ≤ a.last :=
  decide_eq_true_iff

theorem Range.contains_iff (r : Range) (a : Addr) :
    r.contains a = true ↔ r.first ≤ a.toNat ∧ a.toNat ≤ r.last := decide_eq_true_iff

theorem Range.valid_iff (r : Range) :
    r.valid = true ↔ 12 ≤ r.order ∧ r.order ≤ 24 ∧ r.base.toNat % 2 ^ r.order = 0 := decide_eq_true_iff

theorem Range.overlaps_comm (a b : Range) : a.overlaps b = b.overlaps a := by
  rw [Bool.eq_iff_iff, Range.overlaps_iff, Range.overlaps_iff, and_comm]

/-- Two ranges that contain one address overlap. -/
theorem Range.overlaps_of_contains {a b : Range} {x : Addr} (ha : a.contains x = true) (hb : b.contains x = true) :
    a.overlaps b = true := by
  rw [Range.contains_iff] at ha hb
  exact (Range.overlaps_iff a b).mpr ⟨Nat.le_trans ha.1 hb.2, Nat.le_trans hb.1 ha.2⟩

/-- A range narrowed to a lower order ends no later (R79). -/
theorem Range.last_le_of_order {b : Addr} {m k : Nat} (h : m ≤ k) :
    Range.last { base := b, order := m } ≤ Range.last { base := b, order := k } := by
  have := Nat.pow_le_pow_right (n := 2) (by decide) h
  simp only [Range.last]
  omega

/-- What a range overlaps after a NARROW, it overlapped before (R79). -/
theorem Range.overlaps_of_narrowed {b : Addr} {m k : Nat} {r : Range} (h : m ≤ k)
    (o : Range.overlaps { base := b, order := m } r = true) : Range.overlaps { base := b, order := k } r = true := by
  rw [Range.overlaps_iff] at o ⊢
  exact ⟨o.1, Nat.le_trans o.2 (Range.last_le_of_order h)⟩

/-- A base that is a multiple of 2^k is one of every lower power of 2 (R79). -/
theorem Range.valid_of_narrowed {b : Addr} {m k : Nat} (h : Range.valid { base := b, order := k } = true) (h12 : 12 ≤ m)
    (hm : m ≤ k) : Range.valid { base := b, order := m } = true := by
  rw [Range.valid_iff] at h ⊢
  refine ⟨h12, Nat.le_trans hm h.2.1, ?_⟩
  exact Nat.mod_eq_zero_of_dvd (Nat.dvd_trans (Nat.pow_dvd_pow 2 hm) (Nat.dvd_of_mod_eq_zero h.2.2))

/-! ## Compatibility -/

theorem phasesDiffer_comm (p q : Option Phase) : phasesDiffer p q = phasesDiffer q p := by
  cases p <;> cases q <;> simp only [phasesDiffer, bne_comm]

theorem sharesAgree_comm (a b : Share) : sharesAgree a b = sharesAgree b a := by
  cases a <;> cases b <;> rfl

theorem compatible_comm (r₁ : Range) (s₁ : Share) (p₁ : Option Phase) (r₂ : Range) (s₂ : Share) (p₂ : Option Phase) :
    compatible r₁ s₁ p₁ r₂ s₂ p₂ = compatible r₂ s₂ p₂ r₁ s₁ p₁ := by
  simp only [compatible, Range.overlaps_comm r₁ r₂, phasesDiffer_comm p₁ p₂, sharesAgree_comm s₁ s₂]

/-- A narrowed range stays compatible with what it was compatible with (R15). -/
theorem compatible_of_narrowed {b : Addr} {m k : Nat} {s₁ s₂ : Share} {p₁ p₂ : Option Phase} {r : Range} (h : m ≤ k)
    (c : compatible { base := b, order := k } s₁ p₁ r s₂ p₂ = true) :
    compatible { base := b, order := m } s₁ p₁ r s₂ p₂ = true := by
  cases o : Range.overlaps { base := b, order := m } r with
  | false => simp only [compatible, o, Bool.not_false, Bool.true_or]
  | true =>
    simp only [compatible, Range.overlaps_of_narrowed h o, o, Bool.not_true, Bool.false_or] at c ⊢
    exact c

/-! ## Fields -/

/-- A field of k bits is below 2^k. -/
theorem field_lt (w : Word) (lo len : Nat) : field w lo len < 2 ^ len := BitVec.isLt _

theorem agentField_of_lt {w : Word} {lo : Nat} {n : AgentId} (h : n.val = field w lo 3) :
    agentField w lo = some n := by
  have hn : field w lo 3 < 6 := h ▸ n.isLt
  simp only [agentField, dif_pos hn]
  exact congrArg some (Fin.ext h.symm)

theorem agentField_of_ge {w : Word} {lo : Nat} (h : 6 ≤ field w lo 3) : agentField w lo = none := by
  simp only [agentField, dif_neg (Nat.not_lt.mpr h)]

/-! ## Packed words -/

/-- A field above the others adds its weight. -/
theorem toNat_or_place {w : Word} {lo v : Nat} (below : w.toNat < 2 ^ lo) (fits : v * 2 ^ lo < 2 ^ 32) :
    (w ||| place lo v).toNat = w.toNat + v * 2 ^ lo := by
  have hv : v < 2 ^ 32 := Nat.lt_of_le_of_lt (Nat.le_mul_of_pos_right v (Nat.two_pow_pos lo)) fits
  rw [BitVec.toNat_or, place, BitVec.toNat_shiftLeft, BitVec.toNat_ofNat, Nat.mod_eq_of_lt hv, Nat.shiftLeft_eq,
    Nat.mod_eq_of_lt fits, Nat.or_comm, Nat.mul_comm, ← Nat.two_pow_add_eq_or_of_lt below v, Nat.add_comm]

/-- The lowest field. -/
theorem toNat_place {lo v : Nat} (fits : v * 2 ^ lo < 2 ^ 32) : (place lo v).toNat = v * 2 ^ lo := by
  have h := toNat_or_place (w := 0) (lo := lo) (v := v) (Nat.two_pow_pos lo) fits
  simpa using h

end Sys2Proof.Machine
end

