-- ==== Sys2Proof/Laws/State.lean ====
section
/-! SUPPORT. One lemma for each field of State after each named update: true by rfl, or by the lookup of a vector's set.
Later proofs cite these and unfold no record update. -/

namespace Sys2Proof.Machine

/-! ### setEntry -/
@[simp] theorem State.setEntry_ports (s : State) (i : EntryId) (e : Entry) : (s.setEntry i e).ports = s.ports := rfl
@[simp] theorem State.setEntry_leases (s : State) (i : EntryId) (e : Entry) :
    (s.setEntry i e).leases = { s.leases with entries := s.leases.entries.set i e } := rfl
@[simp] theorem State.setEntry_waits (s : State) (i : EntryId) (e : Entry) : (s.setEntry i e).waits = s.waits := rfl
@[simp] theorem State.setEntry_manager (s : State) (i : EntryId) (e : Entry) :
    (s.setEntry i e).manager = s.manager := rfl
@[simp] theorem State.setEntry_profiles (s : State) (i : EntryId) (e : Entry) :
    (s.setEntry i e).profiles = s.profiles := rfl
@[simp] theorem State.setEntry_guards (s : State) (i : EntryId) (e : Entry) :
    (s.setEntry i e).guards = s.guards := rfl
@[simp] theorem State.setEntry_scrub (s : State) (i : EntryId) (e : Entry) : (s.setEntry i e).scrub = s.scrub := rfl
@[simp] theorem State.setEntry_timebase (s : State) (i : EntryId) (e : Entry) :
    (s.setEntry i e).timebase = s.timebase := rfl
@[simp] theorem State.setEntry_phases (s : State) (i : EntryId) (e : Entry) :
    (s.setEntry i e).phases = s.phases := rfl
@[simp] theorem State.setEntry_memPort (s : State) (i : EntryId) (e : Entry) :
    (s.setEntry i e).memPort = s.memPort := rfl
@[simp] theorem State.setEntry_resetAsserted (s : State) (i : EntryId) (e : Entry) :
    (s.setEntry i e).resetAsserted = s.resetAsserted := rfl
@[simp] theorem State.setEntry_sram (s : State) (i : EntryId) (e : Entry) : (s.setEntry i e).sram = s.sram := rfl
@[simp] theorem State.setEntry_freeIndex (s : State) (i : EntryId) (e : Entry) :
    (s.setEntry i e).freeIndex = s.freeIndex := rfl
@[simp] theorem State.setEntry_pending (s : State) (i : EntryId) (e : Entry) :
    (s.setEntry i e).pending = s.pending := rfl
@[simp] theorem State.setEntry_entry (s : State) (i : EntryId) (e : Entry) (j : EntryId) :
    (s.setEntry i e).entry j = if i = j then e else s.entry j := by
  simp only [State.entry, State.setEntry, Fin.getElem_fin, Vector.getElem_set, Fin.val_inj]
@[simp] theorem State.setEntry_wait (s : State) (i : EntryId) (e : Entry) (v : WaitId) : (s.setEntry i e).wait v = s.wait v := rfl
@[simp] theorem State.setEntry_port (s : State) (i : EntryId) (e : Entry) (m : AgentId) : (s.setEntry i e).port m = s.port m := rfl
@[simp] theorem State.setEntry_profile (s : State) (i : EntryId) (e : Entry) (m : AgentId) : (s.setEntry i e).profile m = s.profile m := rfl
@[simp] theorem State.setEntry_guard (s : State) (i : EntryId) (e : Entry) (h : GuardId) : (s.setEntry i e).guard h = s.guard h := rfl

/-! ### setSequencerClaims -/
@[simp] theorem State.setSequencerClaims_ports (s : State) (l : List SequencerClaim) :
    (s.setSequencerClaims l).ports = s.ports := rfl
@[simp] theorem State.setSequencerClaims_leases (s : State) (l : List SequencerClaim) :
    (s.setSequencerClaims l).leases = { s.leases with sequencerClaims := l } := rfl
@[simp] theorem State.setSequencerClaims_waits (s : State) (l : List SequencerClaim) :
    (s.setSequencerClaims l).waits = s.waits := rfl
@[simp] theorem State.setSequencerClaims_manager (s : State) (l : List SequencerClaim) :
    (s.setSequencerClaims l).manager = s.manager := rfl
@[simp] theorem State.setSequencerClaims_profiles (s : State) (l : List SequencerClaim) :
    (s.setSequencerClaims l).profiles = s.profiles := rfl
@[simp] theorem State.setSequencerClaims_guards (s : State) (l : List SequencerClaim) :
    (s.setSequencerClaims l).guards = s.guards := rfl
@[simp] theorem State.setSequencerClaims_scrub (s : State) (l : List SequencerClaim) :
    (s.setSequencerClaims l).scrub = s.scrub := rfl
@[simp] theorem State.setSequencerClaims_timebase (s : State) (l : List SequencerClaim) :
    (s.setSequencerClaims l).timebase = s.timebase := rfl
@[simp] theorem State.setSequencerClaims_phases (s : State) (l : List SequencerClaim) :
    (s.setSequencerClaims l).phases = s.phases := rfl
@[simp] theorem State.setSequencerClaims_memPort (s : State) (l : List SequencerClaim) :
    (s.setSequencerClaims l).memPort = s.memPort := rfl
@[simp] theorem State.setSequencerClaims_resetAsserted (s : State) (l : List SequencerClaim) :
    (s.setSequencerClaims l).resetAsserted = s.resetAsserted := rfl
@[simp] theorem State.setSequencerClaims_sram (s : State) (l : List SequencerClaim) :
    (s.setSequencerClaims l).sram = s.sram := rfl
@[simp] theorem State.setSequencerClaims_freeIndex (s : State) (l : List SequencerClaim) :
    (s.setSequencerClaims l).freeIndex = s.freeIndex := rfl
@[simp] theorem State.setSequencerClaims_pending (s : State) (l : List SequencerClaim) :
    (s.setSequencerClaims l).pending = s.pending := rfl
@[simp] theorem State.setSequencerClaims_entry (s : State) (l : List SequencerClaim) (j : EntryId) : (s.setSequencerClaims l).entry j = s.entry j := rfl
@[simp] theorem State.setSequencerClaims_wait (s : State) (l : List SequencerClaim) (v : WaitId) : (s.setSequencerClaims l).wait v = s.wait v := rfl
@[simp] theorem State.setSequencerClaims_port (s : State) (l : List SequencerClaim) (m : AgentId) : (s.setSequencerClaims l).port m = s.port m := rfl
@[simp] theorem State.setSequencerClaims_profile (s : State) (l : List SequencerClaim) (m : AgentId) : (s.setSequencerClaims l).profile m = s.profile m := rfl
@[simp] theorem State.setSequencerClaims_guard (s : State) (l : List SequencerClaim) (h : GuardId) : (s.setSequencerClaims l).guard h = s.guard h := rfl

/-! ### setWait -/
@[simp] theorem State.setWait_ports (s : State) (w : WaitId) (e : WaitEntry) : (s.setWait w e).ports = s.ports := rfl
@[simp] theorem State.setWait_leases (s : State) (w : WaitId) (e : WaitEntry) :
    (s.setWait w e).leases = s.leases := rfl
@[simp] theorem State.setWait_waits (s : State) (w : WaitId) (e : WaitEntry) :
    (s.setWait w e).waits = { s.waits with entries := s.waits.entries.set w e } := rfl
@[simp] theorem State.setWait_manager (s : State) (w : WaitId) (e : WaitEntry) :
    (s.setWait w e).manager = s.manager := rfl
@[simp] theorem State.setWait_profiles (s : State) (w : WaitId) (e : WaitEntry) :
    (s.setWait w e).profiles = s.profiles := rfl
@[simp] theorem State.setWait_guards (s : State) (w : WaitId) (e : WaitEntry) :
    (s.setWait w e).guards = s.guards := rfl
@[simp] theorem State.setWait_scrub (s : State) (w : WaitId) (e : WaitEntry) : (s.setWait w e).scrub = s.scrub := rfl
@[simp] theorem State.setWait_timebase (s : State) (w : WaitId) (e : WaitEntry) :
    (s.setWait w e).timebase = s.timebase := rfl
@[simp] theorem State.setWait_phases (s : State) (w : WaitId) (e : WaitEntry) :
    (s.setWait w e).phases = s.phases := rfl
@[simp] theorem State.setWait_memPort (s : State) (w : WaitId) (e : WaitEntry) :
    (s.setWait w e).memPort = s.memPort := rfl
@[simp] theorem State.setWait_resetAsserted (s : State) (w : WaitId) (e : WaitEntry) :
    (s.setWait w e).resetAsserted = s.resetAsserted := rfl
@[simp] theorem State.setWait_sram (s : State) (w : WaitId) (e : WaitEntry) : (s.setWait w e).sram = s.sram := rfl
@[simp] theorem State.setWait_freeIndex (s : State) (w : WaitId) (e : WaitEntry) :
    (s.setWait w e).freeIndex = s.freeIndex := rfl
@[simp] theorem State.setWait_pending (s : State) (w : WaitId) (e : WaitEntry) :
    (s.setWait w e).pending = s.pending := rfl
@[simp] theorem State.setWait_entry (s : State) (w : WaitId) (e : WaitEntry) (j : EntryId) : (s.setWait w e).entry j = s.entry j := rfl
@[simp] theorem State.setWait_wait (s : State) (w : WaitId) (e : WaitEntry) (v : WaitId) :
    (s.setWait w e).wait v = if w = v then e else s.wait v := by
  simp only [State.wait, State.setWait, Fin.getElem_fin, Vector.getElem_set, Fin.val_inj]
@[simp] theorem State.setWait_port (s : State) (w : WaitId) (e : WaitEntry) (m : AgentId) : (s.setWait w e).port m = s.port m := rfl
@[simp] theorem State.setWait_profile (s : State) (w : WaitId) (e : WaitEntry) (m : AgentId) : (s.setWait w e).profile m = s.profile m := rfl
@[simp] theorem State.setWait_guard (s : State) (w : WaitId) (e : WaitEntry) (h : GuardId) : (s.setWait w e).guard h = s.guard h := rfl

/-! ### setWaitOrder -/
@[simp] theorem State.setWaitOrder_ports (s : State) (l : List WaitId) : (s.setWaitOrder l).ports = s.ports := rfl
@[simp] theorem State.setWaitOrder_leases (s : State) (l : List WaitId) : (s.setWaitOrder l).leases = s.leases := rfl
@[simp] theorem State.setWaitOrder_waits (s : State) (l : List WaitId) :
    (s.setWaitOrder l).waits = { s.waits with order := l } := rfl
@[simp] theorem State.setWaitOrder_manager (s : State) (l : List WaitId) :
    (s.setWaitOrder l).manager = s.manager := rfl
@[simp] theorem State.setWaitOrder_profiles (s : State) (l : List WaitId) :
    (s.setWaitOrder l).profiles = s.profiles := rfl
@[simp] theorem State.setWaitOrder_guards (s : State) (l : List WaitId) : (s.setWaitOrder l).guards = s.guards := rfl
@[simp] theorem State.setWaitOrder_scrub (s : State) (l : List WaitId) : (s.setWaitOrder l).scrub = s.scrub := rfl
@[simp] theorem State.setWaitOrder_timebase (s : State) (l : List WaitId) :
    (s.setWaitOrder l).timebase = s.timebase := rfl
@[simp] theorem State.setWaitOrder_phases (s : State) (l : List WaitId) : (s.setWaitOrder l).phases = s.phases := rfl
@[simp] theorem State.setWaitOrder_memPort (s : State) (l : List WaitId) :
    (s.setWaitOrder l).memPort = s.memPort := rfl
@[simp] theorem State.setWaitOrder_resetAsserted (s : State) (l : List WaitId) :
    (s.setWaitOrder l).resetAsserted = s.resetAsserted := rfl
@[simp] theorem State.setWaitOrder_sram (s : State) (l : List WaitId) : (s.setWaitOrder l).sram = s.sram := rfl
@[simp] theorem State.setWaitOrder_freeIndex (s : State) (l : List WaitId) :
    (s.setWaitOrder l).freeIndex = s.freeIndex := rfl
@[simp] theorem State.setWaitOrder_pending (s : State) (l : List WaitId) :
    (s.setWaitOrder l).pending = s.pending := rfl
@[simp] theorem State.setWaitOrder_entry (s : State) (l : List WaitId) (j : EntryId) : (s.setWaitOrder l).entry j = s.entry j := rfl
@[simp] theorem State.setWaitOrder_wait (s : State) (l : List WaitId) (v : WaitId) : (s.setWaitOrder l).wait v = s.wait v := rfl
@[simp] theorem State.setWaitOrder_port (s : State) (l : List WaitId) (m : AgentId) : (s.setWaitOrder l).port m = s.port m := rfl
@[simp] theorem State.setWaitOrder_profile (s : State) (l : List WaitId) (m : AgentId) : (s.setWaitOrder l).profile m = s.profile m := rfl
@[simp] theorem State.setWaitOrder_guard (s : State) (l : List WaitId) (h : GuardId) : (s.setWaitOrder l).guard h = s.guard h := rfl

/-! ### setPort -/
@[simp] theorem State.setPort_ports (s : State) (n : AgentId) (p : Port) :
    (s.setPort n p).ports = s.ports.set n p := rfl
@[simp] theorem State.setPort_leases (s : State) (n : AgentId) (p : Port) : (s.setPort n p).leases = s.leases := rfl
@[simp] theorem State.setPort_waits (s : State) (n : AgentId) (p : Port) : (s.setPort n p).waits = s.waits := rfl
@[simp] theorem State.setPort_manager (s : State) (n : AgentId) (p : Port) :
    (s.setPort n p).manager = s.manager := rfl
@[simp] theorem State.setPort_profiles (s : State) (n : AgentId) (p : Port) :
    (s.setPort n p).profiles = s.profiles := rfl
@[simp] theorem State.setPort_guards (s : State) (n : AgentId) (p : Port) : (s.setPort n p).guards = s.guards := rfl
@[simp] theorem State.setPort_scrub (s : State) (n : AgentId) (p : Port) : (s.setPort n p).scrub = s.scrub := rfl
@[simp] theorem State.setPort_timebase (s : State) (n : AgentId) (p : Port) :
    (s.setPort n p).timebase = s.timebase := rfl
@[simp] theorem State.setPort_phases (s : State) (n : AgentId) (p : Port) : (s.setPort n p).phases = s.phases := rfl
@[simp] theorem State.setPort_memPort (s : State) (n : AgentId) (p : Port) :
    (s.setPort n p).memPort = s.memPort := rfl
@[simp] theorem State.setPort_resetAsserted (s : State) (n : AgentId) (p : Port) :
    (s.setPort n p).resetAsserted = s.resetAsserted := rfl
@[simp] theorem State.setPort_sram (s : State) (n : AgentId) (p : Port) : (s.setPort n p).sram = s.sram := rfl
@[simp] theorem State.setPort_freeIndex (s : State) (n : AgentId) (p : Port) :
    (s.setPort n p).freeIndex = s.freeIndex := rfl
@[simp] theorem State.setPort_pending (s : State) (n : AgentId) (p : Port) :
    (s.setPort n p).pending = s.pending := rfl
@[simp] theorem State.setPort_entry (s : State) (n : AgentId) (p : Port) (j : EntryId) : (s.setPort n p).entry j = s.entry j := rfl
@[simp] theorem State.setPort_wait (s : State) (n : AgentId) (p : Port) (v : WaitId) : (s.setPort n p).wait v = s.wait v := rfl
@[simp] theorem State.setPort_port (s : State) (n : AgentId) (p : Port) (m : AgentId) :
    (s.setPort n p).port m = if n = m then p else s.port m := by
  simp only [State.port, State.setPort, Fin.getElem_fin, Vector.getElem_set, Fin.val_inj]
@[simp] theorem State.setPort_profile (s : State) (n : AgentId) (p : Port) (m : AgentId) : (s.setPort n p).profile m = s.profile m := rfl
@[simp] theorem State.setPort_guard (s : State) (n : AgentId) (p : Port) (h : GuardId) : (s.setPort n p).guard h = s.guard h := rfl

/-! ### setProfile -/
@[simp] theorem State.setProfile_ports (s : State) (n : AgentId) (p : Profile) :
    (s.setProfile n p).ports = s.ports := rfl
@[simp] theorem State.setProfile_leases (s : State) (n : AgentId) (p : Profile) :
    (s.setProfile n p).leases = s.leases := rfl
@[simp] theorem State.setProfile_waits (s : State) (n : AgentId) (p : Profile) :
    (s.setProfile n p).waits = s.waits := rfl
@[simp] theorem State.setProfile_manager (s : State) (n : AgentId) (p : Profile) :
    (s.setProfile n p).manager = s.manager := rfl
@[simp] theorem State.setProfile_profiles (s : State) (n : AgentId) (p : Profile) :
    (s.setProfile n p).profiles = s.profiles.set n p := rfl
@[simp] theorem State.setProfile_guards (s : State) (n : AgentId) (p : Profile) :
    (s.setProfile n p).guards = s.guards := rfl
@[simp] theorem State.setProfile_scrub (s : State) (n : AgentId) (p : Profile) :
    (s.setProfile n p).scrub = s.scrub := rfl
@[simp] theorem State.setProfile_timebase (s : State) (n : AgentId) (p : Profile) :
    (s.setProfile n p).timebase = s.timebase := rfl
@[simp] theorem State.setProfile_phases (s : State) (n : AgentId) (p : Profile) :
    (s.setProfile n p).phases = s.phases := rfl
@[simp] theorem State.setProfile_memPort (s : State) (n : AgentId) (p : Profile) :
    (s.setProfile n p).memPort = s.memPort := rfl
@[simp] theorem State.setProfile_resetAsserted (s : State) (n : AgentId) (p : Profile) :
    (s.setProfile n p).resetAsserted = s.resetAsserted := rfl
@[simp] theorem State.setProfile_sram (s : State) (n : AgentId) (p : Profile) :
    (s.setProfile n p).sram = s.sram := rfl
@[simp] theorem State.setProfile_freeIndex (s : State) (n : AgentId) (p : Profile) :
    (s.setProfile n p).freeIndex = s.freeIndex := rfl
@[simp] theorem State.setProfile_pending (s : State) (n : AgentId) (p : Profile) :
    (s.setProfile n p).pending = s.pending := rfl
@[simp] theorem State.setProfile_entry (s : State) (n : AgentId) (p : Profile) (j : EntryId) : (s.setProfile n p).entry j = s.entry j := rfl
@[simp] theorem State.setProfile_wait (s : State) (n : AgentId) (p : Profile) (v : WaitId) : (s.setProfile n p).wait v = s.wait v := rfl
@[simp] theorem State.setProfile_port (s : State) (n : AgentId) (p : Profile) (m : AgentId) : (s.setProfile n p).port m = s.port m := rfl
@[simp] theorem State.setProfile_profile (s : State) (n : AgentId) (p : Profile) (m : AgentId) :
    (s.setProfile n p).profile m = if n = m then p else s.profile m := by
  simp only [State.profile, State.setProfile, Fin.getElem_fin, Vector.getElem_set, Fin.val_inj]
@[simp] theorem State.setProfile_guard (s : State) (n : AgentId) (p : Profile) (h : GuardId) : (s.setProfile n p).guard h = s.guard h := rfl

/-! ### setGuard -/
@[simp] theorem State.setGuard_ports (s : State) (g : GuardId) (x : GuardSpan) :
    (s.setGuard g x).ports = s.ports := rfl
@[simp] theorem State.setGuard_leases (s : State) (g : GuardId) (x : GuardSpan) :
    (s.setGuard g x).leases = s.leases := rfl
@[simp] theorem State.setGuard_waits (s : State) (g : GuardId) (x : GuardSpan) :
    (s.setGuard g x).waits = s.waits := rfl
@[simp] theorem State.setGuard_manager (s : State) (g : GuardId) (x : GuardSpan) :
    (s.setGuard g x).manager = s.manager := rfl
@[simp] theorem State.setGuard_profiles (s : State) (g : GuardId) (x : GuardSpan) :
    (s.setGuard g x).profiles = s.profiles := rfl
@[simp] theorem State.setGuard_guards (s : State) (g : GuardId) (x : GuardSpan) :
    (s.setGuard g x).guards = s.guards.set g x := rfl
@[simp] theorem State.setGuard_scrub (s : State) (g : GuardId) (x : GuardSpan) :
    (s.setGuard g x).scrub = s.scrub := rfl
@[simp] theorem State.setGuard_timebase (s : State) (g : GuardId) (x : GuardSpan) :
    (s.setGuard g x).timebase = s.timebase := rfl
@[simp] theorem State.setGuard_phases (s : State) (g : GuardId) (x : GuardSpan) :
    (s.setGuard g x).phases = s.phases := rfl
@[simp] theorem State.setGuard_memPort (s : State) (g : GuardId) (x : GuardSpan) :
    (s.setGuard g x).memPort = s.memPort := rfl
@[simp] theorem State.setGuard_resetAsserted (s : State) (g : GuardId) (x : GuardSpan) :
    (s.setGuard g x).resetAsserted = s.resetAsserted := rfl
@[simp] theorem State.setGuard_sram (s : State) (g : GuardId) (x : GuardSpan) : (s.setGuard g x).sram = s.sram := rfl
@[simp] theorem State.setGuard_freeIndex (s : State) (g : GuardId) (x : GuardSpan) :
    (s.setGuard g x).freeIndex = s.freeIndex := rfl
@[simp] theorem State.setGuard_pending (s : State) (g : GuardId) (x : GuardSpan) :
    (s.setGuard g x).pending = s.pending := rfl
@[simp] theorem State.setGuard_entry (s : State) (g : GuardId) (x : GuardSpan) (j : EntryId) : (s.setGuard g x).entry j = s.entry j := rfl
@[simp] theorem State.setGuard_wait (s : State) (g : GuardId) (x : GuardSpan) (v : WaitId) : (s.setGuard g x).wait v = s.wait v := rfl
@[simp] theorem State.setGuard_port (s : State) (g : GuardId) (x : GuardSpan) (m : AgentId) : (s.setGuard g x).port m = s.port m := rfl
@[simp] theorem State.setGuard_profile (s : State) (g : GuardId) (x : GuardSpan) (m : AgentId) : (s.setGuard g x).profile m = s.profile m := rfl
@[simp] theorem State.setGuard_guard (s : State) (g : GuardId) (x : GuardSpan) (h : GuardId) :
    (s.setGuard g x).guard h = if g = h then x else s.guard h := by
  simp only [State.guard, State.setGuard, Fin.getElem_fin, Vector.getElem_set, Fin.val_inj]

/-! ### setJob -/
@[simp] theorem State.setJob_ports (s : State) (x : Option Job) : (s.setJob x).ports = s.ports := rfl
@[simp] theorem State.setJob_leases (s : State) (x : Option Job) : (s.setJob x).leases = s.leases := rfl
@[simp] theorem State.setJob_waits (s : State) (x : Option Job) : (s.setJob x).waits = s.waits := rfl
@[simp] theorem State.setJob_manager (s : State) (x : Option Job) :
    (s.setJob x).manager = { s.manager with job := x } := rfl
@[simp] theorem State.setJob_profiles (s : State) (x : Option Job) : (s.setJob x).profiles = s.profiles := rfl
@[simp] theorem State.setJob_guards (s : State) (x : Option Job) : (s.setJob x).guards = s.guards := rfl
@[simp] theorem State.setJob_scrub (s : State) (x : Option Job) : (s.setJob x).scrub = s.scrub := rfl
@[simp] theorem State.setJob_timebase (s : State) (x : Option Job) : (s.setJob x).timebase = s.timebase := rfl
@[simp] theorem State.setJob_phases (s : State) (x : Option Job) : (s.setJob x).phases = s.phases := rfl
@[simp] theorem State.setJob_memPort (s : State) (x : Option Job) : (s.setJob x).memPort = s.memPort := rfl
@[simp] theorem State.setJob_resetAsserted (s : State) (x : Option Job) :
    (s.setJob x).resetAsserted = s.resetAsserted := rfl
@[simp] theorem State.setJob_sram (s : State) (x : Option Job) : (s.setJob x).sram = s.sram := rfl
@[simp] theorem State.setJob_freeIndex (s : State) (x : Option Job) : (s.setJob x).freeIndex = s.freeIndex := rfl
@[simp] theorem State.setJob_pending (s : State) (x : Option Job) : (s.setJob x).pending = s.pending := rfl
@[simp] theorem State.setJob_entry (s : State) (x : Option Job) (j : EntryId) : (s.setJob x).entry j = s.entry j := rfl
@[simp] theorem State.setJob_wait (s : State) (x : Option Job) (v : WaitId) : (s.setJob x).wait v = s.wait v := rfl
@[simp] theorem State.setJob_port (s : State) (x : Option Job) (m : AgentId) : (s.setJob x).port m = s.port m := rfl
@[simp] theorem State.setJob_profile (s : State) (x : Option Job) (m : AgentId) : (s.setJob x).profile m = s.profile m := rfl
@[simp] theorem State.setJob_guard (s : State) (x : Option Job) (h : GuardId) : (s.setJob x).guard h = s.guard h := rfl

/-! ### setJobList -/
@[simp] theorem State.setJobList_ports (s : State) (l : List AgentId) : (s.setJobList l).ports = s.ports := rfl
@[simp] theorem State.setJobList_leases (s : State) (l : List AgentId) : (s.setJobList l).leases = s.leases := rfl
@[simp] theorem State.setJobList_waits (s : State) (l : List AgentId) : (s.setJobList l).waits = s.waits := rfl
@[simp] theorem State.setJobList_manager (s : State) (l : List AgentId) :
    (s.setJobList l).manager = { s.manager with list := l } := rfl
@[simp] theorem State.setJobList_profiles (s : State) (l : List AgentId) :
    (s.setJobList l).profiles = s.profiles := rfl
@[simp] theorem State.setJobList_guards (s : State) (l : List AgentId) : (s.setJobList l).guards = s.guards := rfl
@[simp] theorem State.setJobList_scrub (s : State) (l : List AgentId) : (s.setJobList l).scrub = s.scrub := rfl
@[simp] theorem State.setJobList_timebase (s : State) (l : List AgentId) :
    (s.setJobList l).timebase = s.timebase := rfl
@[simp] theorem State.setJobList_phases (s : State) (l : List AgentId) : (s.setJobList l).phases = s.phases := rfl
@[simp] theorem State.setJobList_memPort (s : State) (l : List AgentId) : (s.setJobList l).memPort = s.memPort := rfl
@[simp] theorem State.setJobList_resetAsserted (s : State) (l : List AgentId) :
    (s.setJobList l).resetAsserted = s.resetAsserted := rfl
@[simp] theorem State.setJobList_sram (s : State) (l : List AgentId) : (s.setJobList l).sram = s.sram := rfl
@[simp] theorem State.setJobList_freeIndex (s : State) (l : List AgentId) :
    (s.setJobList l).freeIndex = s.freeIndex := rfl
@[simp] theorem State.setJobList_pending (s : State) (l : List AgentId) : (s.setJobList l).pending = s.pending := rfl
@[simp] theorem State.setJobList_entry (s : State) (l : List AgentId) (j : EntryId) : (s.setJobList l).entry j = s.entry j := rfl
@[simp] theorem State.setJobList_wait (s : State) (l : List AgentId) (v : WaitId) : (s.setJobList l).wait v = s.wait v := rfl
@[simp] theorem State.setJobList_port (s : State) (l : List AgentId) (m : AgentId) : (s.setJobList l).port m = s.port m := rfl
@[simp] theorem State.setJobList_profile (s : State) (l : List AgentId) (m : AgentId) : (s.setJobList l).profile m = s.profile m := rfl
@[simp] theorem State.setJobList_guard (s : State) (l : List AgentId) (h : GuardId) : (s.setJobList l).guard h = s.guard h := rfl

/-! ### setReexamine -/
@[simp] theorem State.setReexamine_ports (s : State) (b : Bool) : (s.setReexamine b).ports = s.ports := rfl
@[simp] theorem State.setReexamine_leases (s : State) (b : Bool) : (s.setReexamine b).leases = s.leases := rfl
@[simp] theorem State.setReexamine_waits (s : State) (b : Bool) : (s.setReexamine b).waits = s.waits := rfl
@[simp] theorem State.setReexamine_manager (s : State) (b : Bool) :
    (s.setReexamine b).manager = { s.manager with reexamine := b } := rfl
@[simp] theorem State.setReexamine_profiles (s : State) (b : Bool) : (s.setReexamine b).profiles = s.profiles := rfl
@[simp] theorem State.setReexamine_guards (s : State) (b : Bool) : (s.setReexamine b).guards = s.guards := rfl
@[simp] theorem State.setReexamine_scrub (s : State) (b : Bool) : (s.setReexamine b).scrub = s.scrub := rfl
@[simp] theorem State.setReexamine_timebase (s : State) (b : Bool) : (s.setReexamine b).timebase = s.timebase := rfl
@[simp] theorem State.setReexamine_phases (s : State) (b : Bool) : (s.setReexamine b).phases = s.phases := rfl
@[simp] theorem State.setReexamine_memPort (s : State) (b : Bool) : (s.setReexamine b).memPort = s.memPort := rfl
@[simp] theorem State.setReexamine_resetAsserted (s : State) (b : Bool) :
    (s.setReexamine b).resetAsserted = s.resetAsserted := rfl
@[simp] theorem State.setReexamine_sram (s : State) (b : Bool) : (s.setReexamine b).sram = s.sram := rfl
@[simp] theorem State.setReexamine_freeIndex (s : State) (b : Bool) :
    (s.setReexamine b).freeIndex = s.freeIndex := rfl
@[simp] theorem State.setReexamine_pending (s : State) (b : Bool) : (s.setReexamine b).pending = s.pending := rfl
@[simp] theorem State.setReexamine_entry (s : State) (b : Bool) (j : EntryId) : (s.setReexamine b).entry j = s.entry j := rfl
@[simp] theorem State.setReexamine_wait (s : State) (b : Bool) (v : WaitId) : (s.setReexamine b).wait v = s.wait v := rfl
@[simp] theorem State.setReexamine_port (s : State) (b : Bool) (m : AgentId) : (s.setReexamine b).port m = s.port m := rfl
@[simp] theorem State.setReexamine_profile (s : State) (b : Bool) (m : AgentId) : (s.setReexamine b).profile m = s.profile m := rfl
@[simp] theorem State.setReexamine_guard (s : State) (b : Bool) (h : GuardId) : (s.setReexamine b).guard h = s.guard h := rfl

/-! ### setScrub -/
@[simp] theorem State.setScrub_ports (s : State) (x : ScrubEngine) : (s.setScrub x).ports = s.ports := rfl
@[simp] theorem State.setScrub_leases (s : State) (x : ScrubEngine) : (s.setScrub x).leases = s.leases := rfl
@[simp] theorem State.setScrub_waits (s : State) (x : ScrubEngine) : (s.setScrub x).waits = s.waits := rfl
@[simp] theorem State.setScrub_manager (s : State) (x : ScrubEngine) : (s.setScrub x).manager = s.manager := rfl
@[simp] theorem State.setScrub_profiles (s : State) (x : ScrubEngine) : (s.setScrub x).profiles = s.profiles := rfl
@[simp] theorem State.setScrub_guards (s : State) (x : ScrubEngine) : (s.setScrub x).guards = s.guards := rfl
@[simp] theorem State.setScrub_scrub (s : State) (x : ScrubEngine) : (s.setScrub x).scrub = x := rfl
@[simp] theorem State.setScrub_timebase (s : State) (x : ScrubEngine) : (s.setScrub x).timebase = s.timebase := rfl
@[simp] theorem State.setScrub_phases (s : State) (x : ScrubEngine) : (s.setScrub x).phases = s.phases := rfl
@[simp] theorem State.setScrub_memPort (s : State) (x : ScrubEngine) : (s.setScrub x).memPort = s.memPort := rfl
@[simp] theorem State.setScrub_resetAsserted (s : State) (x : ScrubEngine) :
    (s.setScrub x).resetAsserted = s.resetAsserted := rfl
@[simp] theorem State.setScrub_sram (s : State) (x : ScrubEngine) : (s.setScrub x).sram = s.sram := rfl
@[simp] theorem State.setScrub_freeIndex (s : State) (x : ScrubEngine) : (s.setScrub x).freeIndex = s.freeIndex := rfl
@[simp] theorem State.setScrub_pending (s : State) (x : ScrubEngine) : (s.setScrub x).pending = s.pending := rfl
@[simp] theorem State.setScrub_entry (s : State) (x : ScrubEngine) (j : EntryId) : (s.setScrub x).entry j = s.entry j := rfl
@[simp] theorem State.setScrub_wait (s : State) (x : ScrubEngine) (v : WaitId) : (s.setScrub x).wait v = s.wait v := rfl
@[simp] theorem State.setScrub_port (s : State) (x : ScrubEngine) (m : AgentId) : (s.setScrub x).port m = s.port m := rfl
@[simp] theorem State.setScrub_profile (s : State) (x : ScrubEngine) (m : AgentId) : (s.setScrub x).profile m = s.profile m := rfl
@[simp] theorem State.setScrub_guard (s : State) (x : ScrubEngine) (h : GuardId) : (s.setScrub x).guard h = s.guard h := rfl

/-! ### setMemPort -/
@[simp] theorem State.setMemPort_ports (s : State) (x : MemoryPort) : (s.setMemPort x).ports = s.ports := rfl
@[simp] theorem State.setMemPort_leases (s : State) (x : MemoryPort) : (s.setMemPort x).leases = s.leases := rfl
@[simp] theorem State.setMemPort_waits (s : State) (x : MemoryPort) : (s.setMemPort x).waits = s.waits := rfl
@[simp] theorem State.setMemPort_manager (s : State) (x : MemoryPort) : (s.setMemPort x).manager = s.manager := rfl
@[simp] theorem State.setMemPort_profiles (s : State) (x : MemoryPort) : (s.setMemPort x).profiles = s.profiles := rfl
@[simp] theorem State.setMemPort_guards (s : State) (x : MemoryPort) : (s.setMemPort x).guards = s.guards := rfl
@[simp] theorem State.setMemPort_scrub (s : State) (x : MemoryPort) : (s.setMemPort x).scrub = s.scrub := rfl
@[simp] theorem State.setMemPort_timebase (s : State) (x : MemoryPort) : (s.setMemPort x).timebase = s.timebase := rfl
@[simp] theorem State.setMemPort_phases (s : State) (x : MemoryPort) : (s.setMemPort x).phases = s.phases := rfl
@[simp] theorem State.setMemPort_memPort (s : State) (x : MemoryPort) : (s.setMemPort x).memPort = x := rfl
@[simp] theorem State.setMemPort_resetAsserted (s : State) (x : MemoryPort) :
    (s.setMemPort x).resetAsserted = s.resetAsserted := rfl
@[simp] theorem State.setMemPort_sram (s : State) (x : MemoryPort) : (s.setMemPort x).sram = s.sram := rfl
@[simp] theorem State.setMemPort_freeIndex (s : State) (x : MemoryPort) :
    (s.setMemPort x).freeIndex = s.freeIndex := rfl
@[simp] theorem State.setMemPort_pending (s : State) (x : MemoryPort) : (s.setMemPort x).pending = s.pending := rfl
@[simp] theorem State.setMemPort_entry (s : State) (x : MemoryPort) (j : EntryId) : (s.setMemPort x).entry j = s.entry j := rfl
@[simp] theorem State.setMemPort_wait (s : State) (x : MemoryPort) (v : WaitId) : (s.setMemPort x).wait v = s.wait v := rfl
@[simp] theorem State.setMemPort_port (s : State) (x : MemoryPort) (m : AgentId) : (s.setMemPort x).port m = s.port m := rfl
@[simp] theorem State.setMemPort_profile (s : State) (x : MemoryPort) (m : AgentId) : (s.setMemPort x).profile m = s.profile m := rfl
@[simp] theorem State.setMemPort_guard (s : State) (x : MemoryPort) (h : GuardId) : (s.setMemPort x).guard h = s.guard h := rfl

/-! ### setPhases -/
@[simp] theorem State.setPhases_ports (s : State) (x : PhaseSequencer) : (s.setPhases x).ports = s.ports := rfl
@[simp] theorem State.setPhases_leases (s : State) (x : PhaseSequencer) : (s.setPhases x).leases = s.leases := rfl
@[simp] theorem State.setPhases_waits (s : State) (x : PhaseSequencer) : (s.setPhases x).waits = s.waits := rfl
@[simp] theorem State.setPhases_manager (s : State) (x : PhaseSequencer) : (s.setPhases x).manager = s.manager := rfl
@[simp] theorem State.setPhases_profiles (s : State) (x : PhaseSequencer) :
    (s.setPhases x).profiles = s.profiles := rfl
@[simp] theorem State.setPhases_guards (s : State) (x : PhaseSequencer) : (s.setPhases x).guards = s.guards := rfl
@[simp] theorem State.setPhases_scrub (s : State) (x : PhaseSequencer) : (s.setPhases x).scrub = s.scrub := rfl
@[simp] theorem State.setPhases_timebase (s : State) (x : PhaseSequencer) :
    (s.setPhases x).timebase = s.timebase := rfl
@[simp] theorem State.setPhases_phases (s : State) (x : PhaseSequencer) : (s.setPhases x).phases = x := rfl
@[simp] theorem State.setPhases_memPort (s : State) (x : PhaseSequencer) : (s.setPhases x).memPort = s.memPort := rfl
@[simp] theorem State.setPhases_resetAsserted (s : State) (x : PhaseSequencer) :
    (s.setPhases x).resetAsserted = s.resetAsserted := rfl
@[simp] theorem State.setPhases_sram (s : State) (x : PhaseSequencer) : (s.setPhases x).sram = s.sram := rfl
@[simp] theorem State.setPhases_freeIndex (s : State) (x : PhaseSequencer) :
    (s.setPhases x).freeIndex = s.freeIndex := rfl
@[simp] theorem State.setPhases_pending (s : State) (x : PhaseSequencer) : (s.setPhases x).pending = s.pending := rfl
@[simp] theorem State.setPhases_entry (s : State) (x : PhaseSequencer) (j : EntryId) : (s.setPhases x).entry j = s.entry j := rfl
@[simp] theorem State.setPhases_wait (s : State) (x : PhaseSequencer) (v : WaitId) : (s.setPhases x).wait v = s.wait v := rfl
@[simp] theorem State.setPhases_port (s : State) (x : PhaseSequencer) (m : AgentId) : (s.setPhases x).port m = s.port m := rfl
@[simp] theorem State.setPhases_profile (s : State) (x : PhaseSequencer) (m : AgentId) : (s.setPhases x).profile m = s.profile m := rfl
@[simp] theorem State.setPhases_guard (s : State) (x : PhaseSequencer) (h : GuardId) : (s.setPhases x).guard h = s.guard h := rfl

/-! ### setTimebase -/
@[simp] theorem State.setTimebase_ports (s : State) (x : Timebase) : (s.setTimebase x).ports = s.ports := rfl
@[simp] theorem State.setTimebase_leases (s : State) (x : Timebase) : (s.setTimebase x).leases = s.leases := rfl
@[simp] theorem State.setTimebase_waits (s : State) (x : Timebase) : (s.setTimebase x).waits = s.waits := rfl
@[simp] theorem State.setTimebase_manager (s : State) (x : Timebase) : (s.setTimebase x).manager = s.manager := rfl
@[simp] theorem State.setTimebase_profiles (s : State) (x : Timebase) : (s.setTimebase x).profiles = s.profiles := rfl
@[simp] theorem State.setTimebase_guards (s : State) (x : Timebase) : (s.setTimebase x).guards = s.guards := rfl
@[simp] theorem State.setTimebase_scrub (s : State) (x : Timebase) : (s.setTimebase x).scrub = s.scrub := rfl
@[simp] theorem State.setTimebase_timebase (s : State) (x : Timebase) : (s.setTimebase x).timebase = x := rfl
@[simp] theorem State.setTimebase_phases (s : State) (x : Timebase) : (s.setTimebase x).phases = s.phases := rfl
@[simp] theorem State.setTimebase_memPort (s : State) (x : Timebase) : (s.setTimebase x).memPort = s.memPort := rfl
@[simp] theorem State.setTimebase_resetAsserted (s : State) (x : Timebase) :
    (s.setTimebase x).resetAsserted = s.resetAsserted := rfl
@[simp] theorem State.setTimebase_sram (s : State) (x : Timebase) : (s.setTimebase x).sram = s.sram := rfl
@[simp] theorem State.setTimebase_freeIndex (s : State) (x : Timebase) :
    (s.setTimebase x).freeIndex = s.freeIndex := rfl
@[simp] theorem State.setTimebase_pending (s : State) (x : Timebase) : (s.setTimebase x).pending = s.pending := rfl
@[simp] theorem State.setTimebase_entry (s : State) (x : Timebase) (j : EntryId) : (s.setTimebase x).entry j = s.entry j := rfl
@[simp] theorem State.setTimebase_wait (s : State) (x : Timebase) (v : WaitId) : (s.setTimebase x).wait v = s.wait v := rfl
@[simp] theorem State.setTimebase_port (s : State) (x : Timebase) (m : AgentId) : (s.setTimebase x).port m = s.port m := rfl
@[simp] theorem State.setTimebase_profile (s : State) (x : Timebase) (m : AgentId) : (s.setTimebase x).profile m = s.profile m := rfl
@[simp] theorem State.setTimebase_guard (s : State) (x : Timebase) (h : GuardId) : (s.setTimebase x).guard h = s.guard h := rfl

/-! ### raise -/
@[simp] theorem State.raise_ports (s : State) (c : Cause) (n : AgentId) : (s.raise c n).ports = s.ports := rfl
@[simp] theorem State.raise_leases (s : State) (c : Cause) (n : AgentId) : (s.raise c n).leases = s.leases := rfl
@[simp] theorem State.raise_waits (s : State) (c : Cause) (n : AgentId) : (s.raise c n).waits = s.waits := rfl
@[simp] theorem State.raise_manager (s : State) (c : Cause) (n : AgentId) : (s.raise c n).manager = s.manager := rfl
@[simp] theorem State.raise_profiles (s : State) (c : Cause) (n : AgentId) :
    (s.raise c n).profiles = s.profiles.set n { s.profile n with status := (s.profile n).status ||| c.mask } := rfl
@[simp] theorem State.raise_guards (s : State) (c : Cause) (n : AgentId) : (s.raise c n).guards = s.guards := rfl
@[simp] theorem State.raise_scrub (s : State) (c : Cause) (n : AgentId) : (s.raise c n).scrub = s.scrub := rfl
@[simp] theorem State.raise_timebase (s : State) (c : Cause) (n : AgentId) :
    (s.raise c n).timebase = s.timebase := rfl
@[simp] theorem State.raise_phases (s : State) (c : Cause) (n : AgentId) : (s.raise c n).phases = s.phases := rfl
@[simp] theorem State.raise_memPort (s : State) (c : Cause) (n : AgentId) : (s.raise c n).memPort = s.memPort := rfl
@[simp] theorem State.raise_resetAsserted (s : State) (c : Cause) (n : AgentId) :
    (s.raise c n).resetAsserted = s.resetAsserted := rfl
@[simp] theorem State.raise_sram (s : State) (c : Cause) (n : AgentId) : (s.raise c n).sram = s.sram := rfl
@[simp] theorem State.raise_freeIndex (s : State) (c : Cause) (n : AgentId) :
    (s.raise c n).freeIndex = s.freeIndex := rfl
@[simp] theorem State.raise_pending (s : State) (c : Cause) (n : AgentId) : (s.raise c n).pending = s.pending := rfl
@[simp] theorem State.raise_entry (s : State) (c : Cause) (n : AgentId) (j : EntryId) : (s.raise c n).entry j = s.entry j := rfl
@[simp] theorem State.raise_wait (s : State) (c : Cause) (n : AgentId) (v : WaitId) : (s.raise c n).wait v = s.wait v := rfl
@[simp] theorem State.raise_port (s : State) (c : Cause) (n : AgentId) (m : AgentId) : (s.raise c n).port m = s.port m := rfl
theorem State.raise_profile (s : State) (c : Cause) (n : AgentId) (m : AgentId) :
    (s.raise c n).profile m =
      if n = m then { s.profile n with status := (s.profile n).status ||| c.mask } else s.profile m := by
  simp only [State.profile, State.raise, State.setProfile, Fin.getElem_fin, Vector.getElem_set, Fin.val_inj]
@[simp] theorem State.raise_guard (s : State) (c : Cause) (n : AgentId) (h : GuardId) : (s.raise c n).guard h = s.guard h := rfl

/-! ### store -/
@[simp] theorem State.store_ports (s : State) (l : List Host.Cell) : (s.store l).ports = s.ports := rfl
@[simp] theorem State.store_leases (s : State) (l : List Host.Cell) : (s.store l).leases = s.leases := rfl
@[simp] theorem State.store_waits (s : State) (l : List Host.Cell) : (s.store l).waits = s.waits := rfl
@[simp] theorem State.store_manager (s : State) (l : List Host.Cell) : (s.store l).manager = s.manager := rfl
@[simp] theorem State.store_profiles (s : State) (l : List Host.Cell) : (s.store l).profiles = s.profiles := rfl
@[simp] theorem State.store_guards (s : State) (l : List Host.Cell) : (s.store l).guards = s.guards := rfl
@[simp] theorem State.store_scrub (s : State) (l : List Host.Cell) : (s.store l).scrub = s.scrub := rfl
@[simp] theorem State.store_timebase (s : State) (l : List Host.Cell) : (s.store l).timebase = s.timebase := rfl
@[simp] theorem State.store_phases (s : State) (l : List Host.Cell) : (s.store l).phases = s.phases := rfl
@[simp] theorem State.store_memPort (s : State) (l : List Host.Cell) : (s.store l).memPort = s.memPort := rfl
@[simp] theorem State.store_resetAsserted (s : State) (l : List Host.Cell) :
    (s.store l).resetAsserted = s.resetAsserted := rfl
@[simp] theorem State.store_sram (s : State) (l : List Host.Cell) : (s.store l).sram = s.sram.writeAll l := rfl
@[simp] theorem State.store_freeIndex (s : State) (l : List Host.Cell) : (s.store l).freeIndex = s.freeIndex := rfl
@[simp] theorem State.store_pending (s : State) (l : List Host.Cell) : (s.store l).pending = s.pending := rfl
@[simp] theorem State.store_entry (s : State) (l : List Host.Cell) (j : EntryId) : (s.store l).entry j = s.entry j := rfl
@[simp] theorem State.store_wait (s : State) (l : List Host.Cell) (v : WaitId) : (s.store l).wait v = s.wait v := rfl
@[simp] theorem State.store_port (s : State) (l : List Host.Cell) (m : AgentId) : (s.store l).port m = s.port m := rfl
@[simp] theorem State.store_profile (s : State) (l : List Host.Cell) (m : AgentId) : (s.store l).profile m = s.profile m := rfl
@[simp] theorem State.store_guard (s : State) (l : List Host.Cell) (h : GuardId) : (s.store l).guard h = s.guard h := rfl

/-! ### Two updates of one record -/

@[simp] theorem State.setEntry_setEntry (s : State) (i : EntryId) (e f : Entry) :
    (s.setEntry i e).setEntry i f = s.setEntry i f := by
  simp only [State.setEntry, Vector.set_set]

@[simp] theorem State.setWait_setWait (s : State) (w : WaitId) (e f : WaitEntry) :
    (s.setWait w e).setWait w f = s.setWait w f := by
  simp only [State.setWait, Vector.set_set]

@[simp] theorem State.setPort_setPort (s : State) (n : AgentId) (p q : Port) :
    (s.setPort n p).setPort n q = s.setPort n q := by
  simp only [State.setPort, Vector.set_set]

@[simp] theorem State.setProfile_setProfile (s : State) (n : AgentId) (p q : Profile) :
    (s.setProfile n p).setProfile n q = s.setProfile n q := by
  simp only [State.setProfile, Vector.set_set]

@[simp] theorem State.setGuard_setGuard (s : State) (g : GuardId) (x y : GuardSpan) :
    (s.setGuard g x).setGuard g y = s.setGuard g y := by
  simp only [State.setGuard, Vector.set_set]

@[simp] theorem State.setScrub_setScrub (s : State) (x y : ScrubEngine) :
    (s.setScrub x).setScrub y = s.setScrub y := rfl

@[simp] theorem State.setMemPort_setMemPort (s : State) (x y : MemoryPort) :
    (s.setMemPort x).setMemPort y = s.setMemPort y := rfl

/-! ### Two updates of different records -/

theorem State.setProfile_setPort (s : State) (n m : AgentId) (p : Port) (q : Profile) :
    (s.setPort n p).setProfile m q = (s.setProfile m q).setPort n p := rfl

/-! ### Writing back what stands there -/

@[simp] theorem State.setEntry_self (s : State) (i : EntryId) : s.setEntry i (s.entry i) = s := by
  simp only [State.setEntry, State.entry, Fin.getElem_fin, Vector.set_getElem_self]

@[simp] theorem State.setPort_self (s : State) (n : AgentId) : s.setPort n (s.port n) = s := by
  simp only [State.setPort, State.port, Fin.getElem_fin, Vector.set_getElem_self]

@[simp] theorem State.setProfile_self (s : State) (n : AgentId) : s.setProfile n (s.profile n) = s := by
  simp only [State.setProfile, State.profile, Fin.getElem_fin, Vector.set_getElem_self]

@[simp] theorem State.setScrub_self (s : State) : s.setScrub s.scrub = s := rfl

@[simp] theorem State.setMemPort_self (s : State) : s.setMemPort s.memPort = s := rfl

@[simp] theorem State.setPhases_self (s : State) : s.setPhases s.phases = s := rfl

@[simp] theorem State.setTimebase_self (s : State) : s.setTimebase s.timebase = s := rfl

/-! ### Two states are equal when their fields are -/

theorem State.ext_fields {s t : State} (ports : s.ports = t.ports) (leases : s.leases = t.leases)
    (waits : s.waits = t.waits) (manager : s.manager = t.manager) (profiles : s.profiles = t.profiles)
    (guards : s.guards = t.guards) (scrub : s.scrub = t.scrub) (timebase : s.timebase = t.timebase)
    (phases : s.phases = t.phases) (memPort : s.memPort = t.memPort)
    (resetAsserted : s.resetAsserted = t.resetAsserted) (sram : s.sram = t.sram)
    (freeIndex : s.freeIndex = t.freeIndex) (pending : s.pending = t.pending) : s = t := by
  cases s; cases t; simp_all only

end Sys2Proof.Machine
end

