-- ==== Sys2Proof/Laws/Frames.lean ====
section
/-! SUPPORT. The frame of each shared operation: the fields it leaves as they stand. -/

namespace Sys2Proof.Machine

/-! ### requestChunk -/
@[simp] theorem State.requestChunk_ports (s : State) : s.requestChunk.ports = s.ports := by
  unfold State.requestChunk; split
  · rfl
  · split <;> rfl
@[simp] theorem State.requestChunk_leases (s : State) : s.requestChunk.leases = s.leases := by
  unfold State.requestChunk; split
  · rfl
  · split <;> rfl
@[simp] theorem State.requestChunk_waits (s : State) : s.requestChunk.waits = s.waits := by
  unfold State.requestChunk; split
  · rfl
  · split <;> rfl
@[simp] theorem State.requestChunk_manager (s : State) : s.requestChunk.manager = s.manager := by
  unfold State.requestChunk; split
  · rfl
  · split <;> rfl
@[simp] theorem State.requestChunk_profiles (s : State) : s.requestChunk.profiles = s.profiles := by
  unfold State.requestChunk; split
  · rfl
  · split <;> rfl
@[simp] theorem State.requestChunk_guards (s : State) : s.requestChunk.guards = s.guards := by
  unfold State.requestChunk; split
  · rfl
  · split <;> rfl
@[simp] theorem State.requestChunk_scrub (s : State) : s.requestChunk.scrub = s.scrub := by
  unfold State.requestChunk; split
  · rfl
  · split <;> rfl
@[simp] theorem State.requestChunk_timebase (s : State) : s.requestChunk.timebase = s.timebase := by
  unfold State.requestChunk; split
  · rfl
  · split <;> rfl
@[simp] theorem State.requestChunk_phases (s : State) : s.requestChunk.phases = s.phases := by
  unfold State.requestChunk; split
  · rfl
  · split <;> rfl
@[simp] theorem State.requestChunk_resetAsserted (s : State) : s.requestChunk.resetAsserted = s.resetAsserted := by
  unfold State.requestChunk; split
  · rfl
  · split <;> rfl
@[simp] theorem State.requestChunk_sram (s : State) : s.requestChunk.sram = s.sram := by
  unfold State.requestChunk; split
  · rfl
  · split <;> rfl
@[simp] theorem State.requestChunk_freeIndex (s : State) : s.requestChunk.freeIndex = s.freeIndex := by
  unfold State.requestChunk; split
  · rfl
  · split <;> rfl
@[simp] theorem State.requestChunk_pending (s : State) : s.requestChunk.pending = s.pending := by
  unfold State.requestChunk; split
  · rfl
  · split <;> rfl
@[simp] theorem State.requestChunk_entry (s : State) (x : EntryId) : s.requestChunk.entry x = s.entry x := by
  simp only [State.entry, State.requestChunk_leases]
@[simp] theorem State.requestChunk_wait (s : State) (x : WaitId) : s.requestChunk.wait x = s.wait x := by
  simp only [State.wait, State.requestChunk_waits]
@[simp] theorem State.requestChunk_port (s : State) (x : AgentId) : s.requestChunk.port x = s.port x := by
  simp only [State.port, State.requestChunk_ports]
@[simp] theorem State.requestChunk_profile (s : State) (x : AgentId) : s.requestChunk.profile x = s.profile x := by
  simp only [State.profile, State.requestChunk_profiles]
@[simp] theorem State.requestChunk_guard (s : State) (x : GuardId) : s.requestChunk.guard x = s.guard x := by
  simp only [State.guard, State.requestChunk_guards]

/-! ### joinQueue -/
@[simp] theorem State.joinQueue_ports (s : State) (i : EntryId) : (s.joinQueue i).ports = s.ports := by
  unfold State.joinQueue; dsimp only; split <;> simp
@[simp] theorem State.joinQueue_leases (s : State) (i : EntryId) : (s.joinQueue i).leases = s.leases := by
  unfold State.joinQueue; dsimp only; split <;> simp
@[simp] theorem State.joinQueue_waits (s : State) (i : EntryId) : (s.joinQueue i).waits = s.waits := by
  unfold State.joinQueue; dsimp only; split <;> simp
@[simp] theorem State.joinQueue_manager (s : State) (i : EntryId) : (s.joinQueue i).manager = s.manager := by
  unfold State.joinQueue; dsimp only; split <;> simp
@[simp] theorem State.joinQueue_profiles (s : State) (i : EntryId) : (s.joinQueue i).profiles = s.profiles := by
  unfold State.joinQueue; dsimp only; split <;> simp
@[simp] theorem State.joinQueue_guards (s : State) (i : EntryId) : (s.joinQueue i).guards = s.guards := by
  unfold State.joinQueue; dsimp only; split <;> simp
@[simp] theorem State.joinQueue_timebase (s : State) (i : EntryId) : (s.joinQueue i).timebase = s.timebase := by
  unfold State.joinQueue; dsimp only; split <;> simp
@[simp] theorem State.joinQueue_phases (s : State) (i : EntryId) : (s.joinQueue i).phases = s.phases := by
  unfold State.joinQueue; dsimp only; split <;> simp
@[simp] theorem State.joinQueue_resetAsserted (s : State) (i : EntryId) :
    (s.joinQueue i).resetAsserted = s.resetAsserted := by
  unfold State.joinQueue; dsimp only; split <;> simp
@[simp] theorem State.joinQueue_sram (s : State) (i : EntryId) : (s.joinQueue i).sram = s.sram := by
  unfold State.joinQueue; dsimp only; split <;> simp
@[simp] theorem State.joinQueue_freeIndex (s : State) (i : EntryId) : (s.joinQueue i).freeIndex = s.freeIndex := by
  unfold State.joinQueue; dsimp only; split <;> simp
@[simp] theorem State.joinQueue_pending (s : State) (i : EntryId) : (s.joinQueue i).pending = s.pending := by
  unfold State.joinQueue; dsimp only; split <;> simp
@[simp] theorem State.joinQueue_entry (s : State) (i : EntryId) (x : EntryId) :
    (s.joinQueue i).entry x = s.entry x := by
  simp only [State.entry, State.joinQueue_leases]
@[simp] theorem State.joinQueue_wait (s : State) (i : EntryId) (x : WaitId) : (s.joinQueue i).wait x = s.wait x := by
  simp only [State.wait, State.joinQueue_waits]
@[simp] theorem State.joinQueue_port (s : State) (i : EntryId) (x : AgentId) : (s.joinQueue i).port x = s.port x := by
  simp only [State.port, State.joinQueue_ports]
@[simp] theorem State.joinQueue_profile (s : State) (i : EntryId) (x : AgentId) :
    (s.joinQueue i).profile x = s.profile x := by
  simp only [State.profile, State.joinQueue_profiles]
@[simp] theorem State.joinQueue_guard (s : State) (i : EntryId) (x : GuardId) :
    (s.joinQueue i).guard x = s.guard x := by
  simp only [State.guard, State.joinQueue_guards]

/-! ### moveEngine -/
@[simp] theorem State.moveEngine_ports (s : State) : s.moveEngine.ports = s.ports := by
  unfold State.moveEngine; dsimp only; repeat' split
  all_goals simp
@[simp] theorem State.moveEngine_leases (s : State) : s.moveEngine.leases = s.leases := by
  unfold State.moveEngine; dsimp only; repeat' split
  all_goals simp
@[simp] theorem State.moveEngine_waits (s : State) : s.moveEngine.waits = s.waits := by
  unfold State.moveEngine; dsimp only; repeat' split
  all_goals simp
@[simp] theorem State.moveEngine_manager (s : State) : s.moveEngine.manager = s.manager := by
  unfold State.moveEngine; dsimp only; repeat' split
  all_goals simp
@[simp] theorem State.moveEngine_profiles (s : State) : s.moveEngine.profiles = s.profiles := by
  unfold State.moveEngine; dsimp only; repeat' split
  all_goals simp
@[simp] theorem State.moveEngine_guards (s : State) : s.moveEngine.guards = s.guards := by
  unfold State.moveEngine; dsimp only; repeat' split
  all_goals simp
@[simp] theorem State.moveEngine_timebase (s : State) : s.moveEngine.timebase = s.timebase := by
  unfold State.moveEngine; dsimp only; repeat' split
  all_goals simp
@[simp] theorem State.moveEngine_phases (s : State) : s.moveEngine.phases = s.phases := by
  unfold State.moveEngine; dsimp only; repeat' split
  all_goals simp
@[simp] theorem State.moveEngine_resetAsserted (s : State) : s.moveEngine.resetAsserted = s.resetAsserted := by
  unfold State.moveEngine; dsimp only; repeat' split
  all_goals simp
@[simp] theorem State.moveEngine_sram (s : State) : s.moveEngine.sram = s.sram := by
  unfold State.moveEngine; dsimp only; repeat' split
  all_goals simp
@[simp] theorem State.moveEngine_freeIndex (s : State) : s.moveEngine.freeIndex = s.freeIndex := by
  unfold State.moveEngine; dsimp only; repeat' split
  all_goals simp
@[simp] theorem State.moveEngine_pending (s : State) : s.moveEngine.pending = s.pending := by
  unfold State.moveEngine; dsimp only; repeat' split
  all_goals simp
@[simp] theorem State.moveEngine_entry (s : State) (x : EntryId) : s.moveEngine.entry x = s.entry x := by
  simp only [State.entry, State.moveEngine_leases]
@[simp] theorem State.moveEngine_wait (s : State) (x : WaitId) : s.moveEngine.wait x = s.wait x := by
  simp only [State.wait, State.moveEngine_waits]
@[simp] theorem State.moveEngine_port (s : State) (x : AgentId) : s.moveEngine.port x = s.port x := by
  simp only [State.port, State.moveEngine_ports]
@[simp] theorem State.moveEngine_profile (s : State) (x : AgentId) : s.moveEngine.profile x = s.profile x := by
  simp only [State.profile, State.moveEngine_profiles]
@[simp] theorem State.moveEngine_guard (s : State) (x : GuardId) : s.moveEngine.guard x = s.guard x := by
  simp only [State.guard, State.moveEngine_guards]

/-! ### freeEntry -/
@[simp] theorem State.freeEntry_ports (s : State) (i : EntryId) : (s.freeEntry i).ports = s.ports := rfl
@[simp] theorem State.freeEntry_waits (s : State) (i : EntryId) : (s.freeEntry i).waits = s.waits := rfl
@[simp] theorem State.freeEntry_profiles (s : State) (i : EntryId) : (s.freeEntry i).profiles = s.profiles := rfl
@[simp] theorem State.freeEntry_guards (s : State) (i : EntryId) : (s.freeEntry i).guards = s.guards := rfl
@[simp] theorem State.freeEntry_scrub (s : State) (i : EntryId) : (s.freeEntry i).scrub = s.scrub := rfl
@[simp] theorem State.freeEntry_timebase (s : State) (i : EntryId) : (s.freeEntry i).timebase = s.timebase := rfl
@[simp] theorem State.freeEntry_phases (s : State) (i : EntryId) : (s.freeEntry i).phases = s.phases := rfl
@[simp] theorem State.freeEntry_memPort (s : State) (i : EntryId) : (s.freeEntry i).memPort = s.memPort := rfl
@[simp] theorem State.freeEntry_resetAsserted (s : State) (i : EntryId) :
    (s.freeEntry i).resetAsserted = s.resetAsserted := rfl
@[simp] theorem State.freeEntry_sram (s : State) (i : EntryId) : (s.freeEntry i).sram = s.sram := rfl
@[simp] theorem State.freeEntry_freeIndex (s : State) (i : EntryId) : (s.freeEntry i).freeIndex = s.freeIndex := rfl
@[simp] theorem State.freeEntry_pending (s : State) (i : EntryId) : (s.freeEntry i).pending = s.pending := rfl
@[simp] theorem State.freeEntry_wait (s : State) (i : EntryId) (x : WaitId) : (s.freeEntry i).wait x = s.wait x := rfl
@[simp] theorem State.freeEntry_port (s : State) (i : EntryId) (x : AgentId) :
    (s.freeEntry i).port x = s.port x := rfl
@[simp] theorem State.freeEntry_profile (s : State) (i : EntryId) (x : AgentId) :
    (s.freeEntry i).profile x = s.profile x := rfl
@[simp] theorem State.freeEntry_guard (s : State) (i : EntryId) (x : GuardId) :
    (s.freeEntry i).guard x = s.guard x := rfl

/-! ### drained -/
@[simp] theorem State.drained_ports (s : State) (i : EntryId) (l : Lease) : (s.drained i l).ports = s.ports := by
  unfold State.drained; split <;> simp
@[simp] theorem State.drained_waits (s : State) (i : EntryId) (l : Lease) : (s.drained i l).waits = s.waits := by
  unfold State.drained; split <;> simp
@[simp] theorem State.drained_profiles (s : State) (i : EntryId) (l : Lease) :
    (s.drained i l).profiles = s.profiles := by
  unfold State.drained; split <;> simp
@[simp] theorem State.drained_guards (s : State) (i : EntryId) (l : Lease) : (s.drained i l).guards = s.guards := by
  unfold State.drained; split <;> simp
@[simp] theorem State.drained_timebase (s : State) (i : EntryId) (l : Lease) :
    (s.drained i l).timebase = s.timebase := by
  unfold State.drained; split <;> simp
@[simp] theorem State.drained_phases (s : State) (i : EntryId) (l : Lease) : (s.drained i l).phases = s.phases := by
  unfold State.drained; split <;> simp
@[simp] theorem State.drained_resetAsserted (s : State) (i : EntryId) (l : Lease) :
    (s.drained i l).resetAsserted = s.resetAsserted := by
  unfold State.drained; split <;> simp
@[simp] theorem State.drained_sram (s : State) (i : EntryId) (l : Lease) : (s.drained i l).sram = s.sram := by
  unfold State.drained; split <;> simp
@[simp] theorem State.drained_freeIndex (s : State) (i : EntryId) (l : Lease) :
    (s.drained i l).freeIndex = s.freeIndex := by
  unfold State.drained; split <;> simp
@[simp] theorem State.drained_pending (s : State) (i : EntryId) (l : Lease) :
    (s.drained i l).pending = s.pending := by
  unfold State.drained; split <;> simp
@[simp] theorem State.drained_wait (s : State) (i : EntryId) (l : Lease) (x : WaitId) :
    (s.drained i l).wait x = s.wait x := by
  simp only [State.wait, State.drained_waits]
@[simp] theorem State.drained_port (s : State) (i : EntryId) (l : Lease) (x : AgentId) :
    (s.drained i l).port x = s.port x := by
  simp only [State.port, State.drained_ports]
@[simp] theorem State.drained_profile (s : State) (i : EntryId) (l : Lease) (x : AgentId) :
    (s.drained i l).profile x = s.profile x := by
  simp only [State.profile, State.drained_profiles]
@[simp] theorem State.drained_guard (s : State) (i : EntryId) (l : Lease) (x : GuardId) :
    (s.drained i l).guard x = s.guard x := by
  simp only [State.guard, State.drained_guards]

/-! ### retire -/
@[simp] theorem State.retire_ports (s : State) (i : EntryId) : (s.retire i).ports = s.ports := by
  unfold State.retire; dsimp only; split
  · split <;> simp
  all_goals rfl
@[simp] theorem State.retire_waits (s : State) (i : EntryId) : (s.retire i).waits = s.waits := by
  unfold State.retire; dsimp only; split
  · split <;> simp
  all_goals rfl
@[simp] theorem State.retire_profiles (s : State) (i : EntryId) : (s.retire i).profiles = s.profiles := by
  unfold State.retire; dsimp only; split
  · split <;> simp
  all_goals rfl
@[simp] theorem State.retire_guards (s : State) (i : EntryId) : (s.retire i).guards = s.guards := by
  unfold State.retire; dsimp only; split
  · split <;> simp
  all_goals rfl
@[simp] theorem State.retire_timebase (s : State) (i : EntryId) : (s.retire i).timebase = s.timebase := by
  unfold State.retire; dsimp only; split
  · split <;> simp
  all_goals rfl
@[simp] theorem State.retire_phases (s : State) (i : EntryId) : (s.retire i).phases = s.phases := by
  unfold State.retire; dsimp only; split
  · split <;> simp
  all_goals rfl
@[simp] theorem State.retire_resetAsserted (s : State) (i : EntryId) :
    (s.retire i).resetAsserted = s.resetAsserted := by
  unfold State.retire; dsimp only; split
  · split <;> simp
  all_goals rfl
@[simp] theorem State.retire_sram (s : State) (i : EntryId) : (s.retire i).sram = s.sram := by
  unfold State.retire; dsimp only; split
  · split <;> simp
  all_goals rfl
@[simp] theorem State.retire_freeIndex (s : State) (i : EntryId) : (s.retire i).freeIndex = s.freeIndex := by
  unfold State.retire; dsimp only; split
  · split <;> simp
  all_goals rfl
@[simp] theorem State.retire_pending (s : State) (i : EntryId) : (s.retire i).pending = s.pending := by
  unfold State.retire; dsimp only; split
  · split <;> simp
  all_goals rfl
@[simp] theorem State.retire_wait (s : State) (i : EntryId) (x : WaitId) : (s.retire i).wait x = s.wait x := by
  simp only [State.wait, State.retire_waits]
@[simp] theorem State.retire_port (s : State) (i : EntryId) (x : AgentId) : (s.retire i).port x = s.port x := by
  simp only [State.port, State.retire_ports]
@[simp] theorem State.retire_profile (s : State) (i : EntryId) (x : AgentId) :
    (s.retire i).profile x = s.profile x := by
  simp only [State.profile, State.retire_profiles]
@[simp] theorem State.retire_guard (s : State) (i : EntryId) (x : GuardId) : (s.retire i).guard x = s.guard x := by
  simp only [State.guard, State.retire_guards]

/-! ### allocate -/
@[simp] theorem State.allocate_ports (s : State) (i : EntryId) (n : AgentId) (q : Request) :
    (s.allocate i n q).ports = s.ports := rfl
@[simp] theorem State.allocate_waits (s : State) (i : EntryId) (n : AgentId) (q : Request) :
    (s.allocate i n q).waits = s.waits := rfl
@[simp] theorem State.allocate_manager (s : State) (i : EntryId) (n : AgentId) (q : Request) :
    (s.allocate i n q).manager = s.manager := rfl
@[simp] theorem State.allocate_profiles (s : State) (i : EntryId) (n : AgentId) (q : Request) :
    (s.allocate i n q).profiles = s.profiles := rfl
@[simp] theorem State.allocate_guards (s : State) (i : EntryId) (n : AgentId) (q : Request) :
    (s.allocate i n q).guards = s.guards := rfl
@[simp] theorem State.allocate_scrub (s : State) (i : EntryId) (n : AgentId) (q : Request) :
    (s.allocate i n q).scrub = s.scrub := rfl
@[simp] theorem State.allocate_timebase (s : State) (i : EntryId) (n : AgentId) (q : Request) :
    (s.allocate i n q).timebase = s.timebase := rfl
@[simp] theorem State.allocate_phases (s : State) (i : EntryId) (n : AgentId) (q : Request) :
    (s.allocate i n q).phases = s.phases := rfl
@[simp] theorem State.allocate_memPort (s : State) (i : EntryId) (n : AgentId) (q : Request) :
    (s.allocate i n q).memPort = s.memPort := rfl
@[simp] theorem State.allocate_resetAsserted (s : State) (i : EntryId) (n : AgentId) (q : Request) :
    (s.allocate i n q).resetAsserted = s.resetAsserted := rfl
@[simp] theorem State.allocate_sram (s : State) (i : EntryId) (n : AgentId) (q : Request) :
    (s.allocate i n q).sram = s.sram := rfl
@[simp] theorem State.allocate_freeIndex (s : State) (i : EntryId) (n : AgentId) (q : Request) :
    (s.allocate i n q).freeIndex = s.freeIndex := rfl
@[simp] theorem State.allocate_pending (s : State) (i : EntryId) (n : AgentId) (q : Request) :
    (s.allocate i n q).pending = s.pending := rfl
@[simp] theorem State.allocate_wait (s : State) (i : EntryId) (n : AgentId) (q : Request) (x : WaitId) :
    (s.allocate i n q).wait x = s.wait x := rfl
@[simp] theorem State.allocate_port (s : State) (i : EntryId) (n : AgentId) (q : Request) (x : AgentId) :
    (s.allocate i n q).port x = s.port x := rfl
@[simp] theorem State.allocate_profile (s : State) (i : EntryId) (n : AgentId) (q : Request) (x : AgentId) :
    (s.allocate i n q).profile x = s.profile x := rfl
@[simp] theorem State.allocate_guard (s : State) (i : EntryId) (n : AgentId) (q : Request) (x : GuardId) :
    (s.allocate i n q).guard x = s.guard x := rfl

/-! ### resolveWait -/
@[simp] theorem State.resolveWait_ports (s : State) (w : WaitId) (o : WaitOutcome) :
    (s.resolveWait w o).ports = s.ports := by
  unfold State.resolveWait; split <;> rfl
@[simp] theorem State.resolveWait_leases (s : State) (w : WaitId) (o : WaitOutcome) :
    (s.resolveWait w o).leases = s.leases := by
  unfold State.resolveWait; split <;> rfl
@[simp] theorem State.resolveWait_manager (s : State) (w : WaitId) (o : WaitOutcome) :
    (s.resolveWait w o).manager = s.manager := by
  unfold State.resolveWait; split <;> rfl
@[simp] theorem State.resolveWait_guards (s : State) (w : WaitId) (o : WaitOutcome) :
    (s.resolveWait w o).guards = s.guards := by
  unfold State.resolveWait; split <;> rfl
@[simp] theorem State.resolveWait_scrub (s : State) (w : WaitId) (o : WaitOutcome) :
    (s.resolveWait w o).scrub = s.scrub := by
  unfold State.resolveWait; split <;> rfl
@[simp] theorem State.resolveWait_timebase (s : State) (w : WaitId) (o : WaitOutcome) :
    (s.resolveWait w o).timebase = s.timebase := by
  unfold State.resolveWait; split <;> rfl
@[simp] theorem State.resolveWait_phases (s : State) (w : WaitId) (o : WaitOutcome) :
    (s.resolveWait w o).phases = s.phases := by
  unfold State.resolveWait; split <;> rfl
@[simp] theorem State.resolveWait_memPort (s : State) (w : WaitId) (o : WaitOutcome) :
    (s.resolveWait w o).memPort = s.memPort := by
  unfold State.resolveWait; split <;> rfl
@[simp] theorem State.resolveWait_resetAsserted (s : State) (w : WaitId) (o : WaitOutcome) :
    (s.resolveWait w o).resetAsserted = s.resetAsserted := by
  unfold State.resolveWait; split <;> rfl
@[simp] theorem State.resolveWait_sram (s : State) (w : WaitId) (o : WaitOutcome) :
    (s.resolveWait w o).sram = s.sram := by
  unfold State.resolveWait; split <;> rfl
@[simp] theorem State.resolveWait_freeIndex (s : State) (w : WaitId) (o : WaitOutcome) :
    (s.resolveWait w o).freeIndex = s.freeIndex := by
  unfold State.resolveWait; split <;> rfl
@[simp] theorem State.resolveWait_pending (s : State) (w : WaitId) (o : WaitOutcome) :
    (s.resolveWait w o).pending = s.pending := by
  unfold State.resolveWait; split <;> rfl
@[simp] theorem State.resolveWait_entry (s : State) (w : WaitId) (o : WaitOutcome) (x : EntryId) :
    (s.resolveWait w o).entry x = s.entry x := by
  simp only [State.entry, State.resolveWait_leases]
@[simp] theorem State.resolveWait_port (s : State) (w : WaitId) (o : WaitOutcome) (x : AgentId) :
    (s.resolveWait w o).port x = s.port x := by
  simp only [State.port, State.resolveWait_ports]
@[simp] theorem State.resolveWait_guard (s : State) (w : WaitId) (o : WaitOutcome) (x : GuardId) :
    (s.resolveWait w o).guard x = s.guard x := by
  simp only [State.guard, State.resolveWait_guards]

/-! ### freeWait -/
@[simp] theorem State.freeWait_ports (s : State) (w : WaitId) : (s.freeWait w).ports = s.ports := rfl
@[simp] theorem State.freeWait_leases (s : State) (w : WaitId) : (s.freeWait w).leases = s.leases := rfl
@[simp] theorem State.freeWait_manager (s : State) (w : WaitId) : (s.freeWait w).manager = s.manager := rfl
@[simp] theorem State.freeWait_profiles (s : State) (w : WaitId) : (s.freeWait w).profiles = s.profiles := rfl
@[simp] theorem State.freeWait_guards (s : State) (w : WaitId) : (s.freeWait w).guards = s.guards := rfl
@[simp] theorem State.freeWait_scrub (s : State) (w : WaitId) : (s.freeWait w).scrub = s.scrub := rfl
@[simp] theorem State.freeWait_timebase (s : State) (w : WaitId) : (s.freeWait w).timebase = s.timebase := rfl
@[simp] theorem State.freeWait_phases (s : State) (w : WaitId) : (s.freeWait w).phases = s.phases := rfl
@[simp] theorem State.freeWait_memPort (s : State) (w : WaitId) : (s.freeWait w).memPort = s.memPort := rfl
@[simp] theorem State.freeWait_resetAsserted (s : State) (w : WaitId) :
    (s.freeWait w).resetAsserted = s.resetAsserted := rfl
@[simp] theorem State.freeWait_sram (s : State) (w : WaitId) : (s.freeWait w).sram = s.sram := rfl
@[simp] theorem State.freeWait_freeIndex (s : State) (w : WaitId) : (s.freeWait w).freeIndex = s.freeIndex := rfl
@[simp] theorem State.freeWait_pending (s : State) (w : WaitId) : (s.freeWait w).pending = s.pending := rfl
@[simp] theorem State.freeWait_entry (s : State) (w : WaitId) (x : EntryId) :
    (s.freeWait w).entry x = s.entry x := rfl
@[simp] theorem State.freeWait_port (s : State) (w : WaitId) (x : AgentId) : (s.freeWait w).port x = s.port x := rfl
@[simp] theorem State.freeWait_profile (s : State) (w : WaitId) (x : AgentId) :
    (s.freeWait w).profile x = s.profile x := rfl
@[simp] theorem State.freeWait_guard (s : State) (w : WaitId) (x : GuardId) :
    (s.freeWait w).guard x = s.guard x := rfl

/-! ### endPassIfDone -/
@[simp] theorem State.endPassIfDone_ports (s : State) : s.endPassIfDone.ports = s.ports := by
  unfold State.endPassIfDone; split
  · split <;> rfl
  all_goals rfl
@[simp] theorem State.endPassIfDone_leases (s : State) : s.endPassIfDone.leases = s.leases := by
  unfold State.endPassIfDone; split
  · split <;> rfl
  all_goals rfl
@[simp] theorem State.endPassIfDone_waits (s : State) : s.endPassIfDone.waits = s.waits := by
  unfold State.endPassIfDone; split
  · split <;> rfl
  all_goals rfl
@[simp] theorem State.endPassIfDone_profiles (s : State) : s.endPassIfDone.profiles = s.profiles := by
  unfold State.endPassIfDone; split
  · split <;> rfl
  all_goals rfl
@[simp] theorem State.endPassIfDone_guards (s : State) : s.endPassIfDone.guards = s.guards := by
  unfold State.endPassIfDone; split
  · split <;> rfl
  all_goals rfl
@[simp] theorem State.endPassIfDone_scrub (s : State) : s.endPassIfDone.scrub = s.scrub := by
  unfold State.endPassIfDone; split
  · split <;> rfl
  all_goals rfl
@[simp] theorem State.endPassIfDone_timebase (s : State) : s.endPassIfDone.timebase = s.timebase := by
  unfold State.endPassIfDone; split
  · split <;> rfl
  all_goals rfl
@[simp] theorem State.endPassIfDone_phases (s : State) : s.endPassIfDone.phases = s.phases := by
  unfold State.endPassIfDone; split
  · split <;> rfl
  all_goals rfl
@[simp] theorem State.endPassIfDone_memPort (s : State) : s.endPassIfDone.memPort = s.memPort := by
  unfold State.endPassIfDone; split
  · split <;> rfl
  all_goals rfl
@[simp] theorem State.endPassIfDone_resetAsserted (s : State) : s.endPassIfDone.resetAsserted = s.resetAsserted := by
  unfold State.endPassIfDone; split
  · split <;> rfl
  all_goals rfl
@[simp] theorem State.endPassIfDone_sram (s : State) : s.endPassIfDone.sram = s.sram := by
  unfold State.endPassIfDone; split
  · split <;> rfl
  all_goals rfl
@[simp] theorem State.endPassIfDone_freeIndex (s : State) : s.endPassIfDone.freeIndex = s.freeIndex := by
  unfold State.endPassIfDone; split
  · split <;> rfl
  all_goals rfl
@[simp] theorem State.endPassIfDone_pending (s : State) : s.endPassIfDone.pending = s.pending := by
  unfold State.endPassIfDone; split
  · split <;> rfl
  all_goals rfl
@[simp] theorem State.endPassIfDone_entry (s : State) (x : EntryId) : s.endPassIfDone.entry x = s.entry x := by
  simp only [State.entry, State.endPassIfDone_leases]
@[simp] theorem State.endPassIfDone_wait (s : State) (x : WaitId) : s.endPassIfDone.wait x = s.wait x := by
  simp only [State.wait, State.endPassIfDone_waits]
@[simp] theorem State.endPassIfDone_port (s : State) (x : AgentId) : s.endPassIfDone.port x = s.port x := by
  simp only [State.port, State.endPassIfDone_ports]
@[simp] theorem State.endPassIfDone_profile (s : State) (x : AgentId) : s.endPassIfDone.profile x = s.profile x := by
  simp only [State.profile, State.endPassIfDone_profiles]
@[simp] theorem State.endPassIfDone_guard (s : State) (x : GuardId) : s.endPassIfDone.guard x = s.guard x := by
  simp only [State.guard, State.endPassIfDone_guards]

/-! ### respond -/
@[simp] theorem State.respond_leases (s : State) (n : AgentId) (code : BitVec 8) (r : Reply) :
    (s.respond n code r).leases = s.leases := by
  unfold State.respond; dsimp only; split <;> rfl
@[simp] theorem State.respond_waits (s : State) (n : AgentId) (code : BitVec 8) (r : Reply) :
    (s.respond n code r).waits = s.waits := by
  unfold State.respond; dsimp only; split <;> rfl
@[simp] theorem State.respond_manager (s : State) (n : AgentId) (code : BitVec 8) (r : Reply) :
    (s.respond n code r).manager = s.manager := by
  unfold State.respond; dsimp only; split <;> rfl
@[simp] theorem State.respond_guards (s : State) (n : AgentId) (code : BitVec 8) (r : Reply) :
    (s.respond n code r).guards = s.guards := by
  unfold State.respond; dsimp only; split <;> rfl
@[simp] theorem State.respond_scrub (s : State) (n : AgentId) (code : BitVec 8) (r : Reply) :
    (s.respond n code r).scrub = s.scrub := by
  unfold State.respond; dsimp only; split <;> rfl
@[simp] theorem State.respond_timebase (s : State) (n : AgentId) (code : BitVec 8) (r : Reply) :
    (s.respond n code r).timebase = s.timebase := by
  unfold State.respond; dsimp only; split <;> rfl
@[simp] theorem State.respond_phases (s : State) (n : AgentId) (code : BitVec 8) (r : Reply) :
    (s.respond n code r).phases = s.phases := by
  unfold State.respond; dsimp only; split <;> rfl
@[simp] theorem State.respond_memPort (s : State) (n : AgentId) (code : BitVec 8) (r : Reply) :
    (s.respond n code r).memPort = s.memPort := by
  unfold State.respond; dsimp only; split <;> rfl
@[simp] theorem State.respond_resetAsserted (s : State) (n : AgentId) (code : BitVec 8) (r : Reply) :
    (s.respond n code r).resetAsserted = s.resetAsserted := by
  unfold State.respond; dsimp only; split <;> rfl
@[simp] theorem State.respond_sram (s : State) (n : AgentId) (code : BitVec 8) (r : Reply) :
    (s.respond n code r).sram = s.sram := by
  unfold State.respond; dsimp only; split <;> rfl
@[simp] theorem State.respond_freeIndex (s : State) (n : AgentId) (code : BitVec 8) (r : Reply) :
    (s.respond n code r).freeIndex = s.freeIndex := by
  unfold State.respond; dsimp only; split <;> rfl
@[simp] theorem State.respond_pending (s : State) (n : AgentId) (code : BitVec 8) (r : Reply) :
    (s.respond n code r).pending = s.pending := by
  unfold State.respond; dsimp only; split <;> rfl
@[simp] theorem State.respond_entry (s : State) (n : AgentId) (code : BitVec 8) (r : Reply) (x : EntryId) :
    (s.respond n code r).entry x = s.entry x := by
  simp only [State.entry, State.respond_leases]
@[simp] theorem State.respond_wait (s : State) (n : AgentId) (code : BitVec 8) (r : Reply) (x : WaitId) :
    (s.respond n code r).wait x = s.wait x := by
  simp only [State.wait, State.respond_waits]
@[simp] theorem State.respond_guard (s : State) (n : AgentId) (code : BitVec 8) (r : Reply) (x : GuardId) :
    (s.respond n code r).guard x = s.guard x := by
  simp only [State.guard, State.respond_guards]

/-! ### detachEvent -/
@[simp] theorem State.detachEvent_leases (s : State) (n : AgentId) : (s.detachEvent n).leases = s.leases := by
  unfold State.detachEvent; dsimp only; split <;> rfl
@[simp] theorem State.detachEvent_waits (s : State) (n : AgentId) : (s.detachEvent n).waits = s.waits := by
  unfold State.detachEvent; dsimp only; split <;> rfl
@[simp] theorem State.detachEvent_profiles (s : State) (n : AgentId) : (s.detachEvent n).profiles = s.profiles := by
  unfold State.detachEvent; dsimp only; split <;> rfl
@[simp] theorem State.detachEvent_guards (s : State) (n : AgentId) : (s.detachEvent n).guards = s.guards := by
  unfold State.detachEvent; dsimp only; split <;> rfl
@[simp] theorem State.detachEvent_scrub (s : State) (n : AgentId) : (s.detachEvent n).scrub = s.scrub := by
  unfold State.detachEvent; dsimp only; split <;> rfl
@[simp] theorem State.detachEvent_timebase (s : State) (n : AgentId) : (s.detachEvent n).timebase = s.timebase := by
  unfold State.detachEvent; dsimp only; split <;> rfl
@[simp] theorem State.detachEvent_phases (s : State) (n : AgentId) : (s.detachEvent n).phases = s.phases := by
  unfold State.detachEvent; dsimp only; split <;> rfl
@[simp] theorem State.detachEvent_memPort (s : State) (n : AgentId) : (s.detachEvent n).memPort = s.memPort := by
  unfold State.detachEvent; dsimp only; split <;> rfl
@[simp] theorem State.detachEvent_resetAsserted (s : State) (n : AgentId) :
    (s.detachEvent n).resetAsserted = s.resetAsserted := by
  unfold State.detachEvent; dsimp only; split <;> rfl
@[simp] theorem State.detachEvent_sram (s : State) (n : AgentId) : (s.detachEvent n).sram = s.sram := by
  unfold State.detachEvent; dsimp only; split <;> rfl
@[simp] theorem State.detachEvent_freeIndex (s : State) (n : AgentId) :
    (s.detachEvent n).freeIndex = s.freeIndex := by
  unfold State.detachEvent; dsimp only; split <;> rfl
@[simp] theorem State.detachEvent_pending (s : State) (n : AgentId) : (s.detachEvent n).pending = s.pending := by
  unfold State.detachEvent; dsimp only; split <;> rfl
@[simp] theorem State.detachEvent_entry (s : State) (n : AgentId) (x : EntryId) :
    (s.detachEvent n).entry x = s.entry x := by
  simp only [State.entry, State.detachEvent_leases]
@[simp] theorem State.detachEvent_wait (s : State) (n : AgentId) (x : WaitId) :
    (s.detachEvent n).wait x = s.wait x := by
  simp only [State.wait, State.detachEvent_waits]
@[simp] theorem State.detachEvent_profile (s : State) (n : AgentId) (x : AgentId) :
    (s.detachEvent n).profile x = s.profile x := by
  simp only [State.profile, State.detachEvent_profiles]
@[simp] theorem State.detachEvent_guard (s : State) (n : AgentId) (x : GuardId) :
    (s.detachEvent n).guard x = s.guard x := by
  simp only [State.guard, State.detachEvent_guards]

/-! ### emptyStatus -/
@[simp] theorem State.emptyStatus_ports (s : State) (n : AgentId) : (s.emptyStatus n).ports = s.ports := rfl
@[simp] theorem State.emptyStatus_leases (s : State) (n : AgentId) : (s.emptyStatus n).leases = s.leases := rfl
@[simp] theorem State.emptyStatus_waits (s : State) (n : AgentId) : (s.emptyStatus n).waits = s.waits := rfl
@[simp] theorem State.emptyStatus_manager (s : State) (n : AgentId) : (s.emptyStatus n).manager = s.manager := rfl
@[simp] theorem State.emptyStatus_guards (s : State) (n : AgentId) : (s.emptyStatus n).guards = s.guards := rfl
@[simp] theorem State.emptyStatus_scrub (s : State) (n : AgentId) : (s.emptyStatus n).scrub = s.scrub := rfl
@[simp] theorem State.emptyStatus_timebase (s : State) (n : AgentId) : (s.emptyStatus n).timebase = s.timebase := rfl
@[simp] theorem State.emptyStatus_phases (s : State) (n : AgentId) : (s.emptyStatus n).phases = s.phases := rfl
@[simp] theorem State.emptyStatus_memPort (s : State) (n : AgentId) : (s.emptyStatus n).memPort = s.memPort := rfl
@[simp] theorem State.emptyStatus_resetAsserted (s : State) (n : AgentId) :
    (s.emptyStatus n).resetAsserted = s.resetAsserted := rfl
@[simp] theorem State.emptyStatus_sram (s : State) (n : AgentId) : (s.emptyStatus n).sram = s.sram := rfl
@[simp] theorem State.emptyStatus_freeIndex (s : State) (n : AgentId) :
    (s.emptyStatus n).freeIndex = s.freeIndex := rfl
@[simp] theorem State.emptyStatus_pending (s : State) (n : AgentId) : (s.emptyStatus n).pending = s.pending := rfl
@[simp] theorem State.emptyStatus_entry (s : State) (n : AgentId) (x : EntryId) :
    (s.emptyStatus n).entry x = s.entry x := rfl
@[simp] theorem State.emptyStatus_wait (s : State) (n : AgentId) (x : WaitId) :
    (s.emptyStatus n).wait x = s.wait x := rfl
@[simp] theorem State.emptyStatus_port (s : State) (n : AgentId) (x : AgentId) :
    (s.emptyStatus n).port x = s.port x := rfl
@[simp] theorem State.emptyStatus_guard (s : State) (n : AgentId) (x : GuardId) :
    (s.emptyStatus n).guard x = s.guard x := rfl

/-! ### takeReport -/
@[simp] theorem State.takeReport_ports (s : State) (n : AgentId) (r : FaultReport) :
    (s.takeReport n r).ports = s.ports := rfl
@[simp] theorem State.takeReport_leases (s : State) (n : AgentId) (r : FaultReport) :
    (s.takeReport n r).leases = s.leases := rfl
@[simp] theorem State.takeReport_waits (s : State) (n : AgentId) (r : FaultReport) :
    (s.takeReport n r).waits = s.waits := rfl
@[simp] theorem State.takeReport_manager (s : State) (n : AgentId) (r : FaultReport) :
    (s.takeReport n r).manager = s.manager := rfl
@[simp] theorem State.takeReport_guards (s : State) (n : AgentId) (r : FaultReport) :
    (s.takeReport n r).guards = s.guards := rfl
@[simp] theorem State.takeReport_scrub (s : State) (n : AgentId) (r : FaultReport) :
    (s.takeReport n r).scrub = s.scrub := rfl
@[simp] theorem State.takeReport_timebase (s : State) (n : AgentId) (r : FaultReport) :
    (s.takeReport n r).timebase = s.timebase := rfl
@[simp] theorem State.takeReport_phases (s : State) (n : AgentId) (r : FaultReport) :
    (s.takeReport n r).phases = s.phases := rfl
@[simp] theorem State.takeReport_memPort (s : State) (n : AgentId) (r : FaultReport) :
    (s.takeReport n r).memPort = s.memPort := rfl
@[simp] theorem State.takeReport_resetAsserted (s : State) (n : AgentId) (r : FaultReport) :
    (s.takeReport n r).resetAsserted = s.resetAsserted := rfl
@[simp] theorem State.takeReport_sram (s : State) (n : AgentId) (r : FaultReport) :
    (s.takeReport n r).sram = s.sram := rfl
@[simp] theorem State.takeReport_freeIndex (s : State) (n : AgentId) (r : FaultReport) :
    (s.takeReport n r).freeIndex = s.freeIndex := rfl
@[simp] theorem State.takeReport_pending (s : State) (n : AgentId) (r : FaultReport) :
    (s.takeReport n r).pending = s.pending := rfl
@[simp] theorem State.takeReport_entry (s : State) (n : AgentId) (r : FaultReport) (x : EntryId) :
    (s.takeReport n r).entry x = s.entry x := rfl
@[simp] theorem State.takeReport_wait (s : State) (n : AgentId) (r : FaultReport) (x : WaitId) :
    (s.takeReport n r).wait x = s.wait x := rfl
@[simp] theorem State.takeReport_port (s : State) (n : AgentId) (r : FaultReport) (x : AgentId) :
    (s.takeReport n r).port x = s.port x := rfl
@[simp] theorem State.takeReport_guard (s : State) (n : AgentId) (r : FaultReport) (x : GuardId) :
    (s.takeReport n r).guard x = s.guard x := rfl

/-! ### clearCauses -/
@[simp] theorem State.clearCauses_ports (s : State) (n : AgentId) (v : Word) :
    (s.clearCauses n v).ports = s.ports := rfl
@[simp] theorem State.clearCauses_leases (s : State) (n : AgentId) (v : Word) :
    (s.clearCauses n v).leases = s.leases := rfl
@[simp] theorem State.clearCauses_waits (s : State) (n : AgentId) (v : Word) :
    (s.clearCauses n v).waits = s.waits := rfl
@[simp] theorem State.clearCauses_manager (s : State) (n : AgentId) (v : Word) :
    (s.clearCauses n v).manager = s.manager := rfl
@[simp] theorem State.clearCauses_guards (s : State) (n : AgentId) (v : Word) :
    (s.clearCauses n v).guards = s.guards := rfl
@[simp] theorem State.clearCauses_scrub (s : State) (n : AgentId) (v : Word) :
    (s.clearCauses n v).scrub = s.scrub := rfl
@[simp] theorem State.clearCauses_timebase (s : State) (n : AgentId) (v : Word) :
    (s.clearCauses n v).timebase = s.timebase := rfl
@[simp] theorem State.clearCauses_phases (s : State) (n : AgentId) (v : Word) :
    (s.clearCauses n v).phases = s.phases := rfl
@[simp] theorem State.clearCauses_memPort (s : State) (n : AgentId) (v : Word) :
    (s.clearCauses n v).memPort = s.memPort := rfl
@[simp] theorem State.clearCauses_resetAsserted (s : State) (n : AgentId) (v : Word) :
    (s.clearCauses n v).resetAsserted = s.resetAsserted := rfl
@[simp] theorem State.clearCauses_sram (s : State) (n : AgentId) (v : Word) : (s.clearCauses n v).sram = s.sram := rfl
@[simp] theorem State.clearCauses_freeIndex (s : State) (n : AgentId) (v : Word) :
    (s.clearCauses n v).freeIndex = s.freeIndex := rfl
@[simp] theorem State.clearCauses_pending (s : State) (n : AgentId) (v : Word) :
    (s.clearCauses n v).pending = s.pending := rfl
@[simp] theorem State.clearCauses_entry (s : State) (n : AgentId) (v : Word) (x : EntryId) :
    (s.clearCauses n v).entry x = s.entry x := rfl
@[simp] theorem State.clearCauses_wait (s : State) (n : AgentId) (v : Word) (x : WaitId) :
    (s.clearCauses n v).wait x = s.wait x := rfl
@[simp] theorem State.clearCauses_port (s : State) (n : AgentId) (v : Word) (x : AgentId) :
    (s.clearCauses n v).port x = s.port x := rfl
@[simp] theorem State.clearCauses_guard (s : State) (n : AgentId) (v : Word) (x : GuardId) :
    (s.clearCauses n v).guard x = s.guard x := rfl

/-! ### writeEnable -/
@[simp] theorem State.writeEnable_ports (s : State) (n : AgentId) (v : Word) :
    (s.writeEnable n v).ports = s.ports := rfl
@[simp] theorem State.writeEnable_leases (s : State) (n : AgentId) (v : Word) :
    (s.writeEnable n v).leases = s.leases := rfl
@[simp] theorem State.writeEnable_waits (s : State) (n : AgentId) (v : Word) :
    (s.writeEnable n v).waits = s.waits := rfl
@[simp] theorem State.writeEnable_manager (s : State) (n : AgentId) (v : Word) :
    (s.writeEnable n v).manager = s.manager := rfl
@[simp] theorem State.writeEnable_guards (s : State) (n : AgentId) (v : Word) :
    (s.writeEnable n v).guards = s.guards := rfl
@[simp] theorem State.writeEnable_scrub (s : State) (n : AgentId) (v : Word) :
    (s.writeEnable n v).scrub = s.scrub := rfl
@[simp] theorem State.writeEnable_timebase (s : State) (n : AgentId) (v : Word) :
    (s.writeEnable n v).timebase = s.timebase := rfl
@[simp] theorem State.writeEnable_phases (s : State) (n : AgentId) (v : Word) :
    (s.writeEnable n v).phases = s.phases := rfl
@[simp] theorem State.writeEnable_memPort (s : State) (n : AgentId) (v : Word) :
    (s.writeEnable n v).memPort = s.memPort := rfl
@[simp] theorem State.writeEnable_resetAsserted (s : State) (n : AgentId) (v : Word) :
    (s.writeEnable n v).resetAsserted = s.resetAsserted := rfl
@[simp] theorem State.writeEnable_sram (s : State) (n : AgentId) (v : Word) : (s.writeEnable n v).sram = s.sram := rfl
@[simp] theorem State.writeEnable_freeIndex (s : State) (n : AgentId) (v : Word) :
    (s.writeEnable n v).freeIndex = s.freeIndex := rfl
@[simp] theorem State.writeEnable_pending (s : State) (n : AgentId) (v : Word) :
    (s.writeEnable n v).pending = s.pending := rfl
@[simp] theorem State.writeEnable_entry (s : State) (n : AgentId) (v : Word) (x : EntryId) :
    (s.writeEnable n v).entry x = s.entry x := rfl
@[simp] theorem State.writeEnable_wait (s : State) (n : AgentId) (v : Word) (x : WaitId) :
    (s.writeEnable n v).wait x = s.wait x := rfl
@[simp] theorem State.writeEnable_port (s : State) (n : AgentId) (v : Word) (x : AgentId) :
    (s.writeEnable n v).port x = s.port x := rfl
@[simp] theorem State.writeEnable_guard (s : State) (n : AgentId) (v : Word) (x : GuardId) :
    (s.writeEnable n v).guard x = s.guard x := rfl

/-! ### leaveWord -/
@[simp] theorem State.leaveWord_ports (s : State) (a : Nat) : (s.leaveWord a).ports = s.ports := rfl
@[simp] theorem State.leaveWord_leases (s : State) (a : Nat) : (s.leaveWord a).leases = s.leases := rfl
@[simp] theorem State.leaveWord_waits (s : State) (a : Nat) : (s.leaveWord a).waits = s.waits := rfl
@[simp] theorem State.leaveWord_manager (s : State) (a : Nat) : (s.leaveWord a).manager = s.manager := rfl
@[simp] theorem State.leaveWord_profiles (s : State) (a : Nat) : (s.leaveWord a).profiles = s.profiles := rfl
@[simp] theorem State.leaveWord_guards (s : State) (a : Nat) : (s.leaveWord a).guards = s.guards := rfl
@[simp] theorem State.leaveWord_scrub (s : State) (a : Nat) : (s.leaveWord a).scrub = s.scrub := rfl
@[simp] theorem State.leaveWord_timebase (s : State) (a : Nat) : (s.leaveWord a).timebase = s.timebase := rfl
@[simp] theorem State.leaveWord_phases (s : State) (a : Nat) : (s.leaveWord a).phases = s.phases := rfl
@[simp] theorem State.leaveWord_memPort (s : State) (a : Nat) : (s.leaveWord a).memPort = s.memPort := rfl
@[simp] theorem State.leaveWord_resetAsserted (s : State) (a : Nat) :
    (s.leaveWord a).resetAsserted = s.resetAsserted := rfl
@[simp] theorem State.leaveWord_pending (s : State) (a : Nat) : (s.leaveWord a).pending = s.pending := rfl
@[simp] theorem State.leaveWord_entry (s : State) (a : Nat) (x : EntryId) : (s.leaveWord a).entry x = s.entry x := rfl
@[simp] theorem State.leaveWord_wait (s : State) (a : Nat) (x : WaitId) : (s.leaveWord a).wait x = s.wait x := rfl
@[simp] theorem State.leaveWord_port (s : State) (a : Nat) (x : AgentId) : (s.leaveWord a).port x = s.port x := rfl
@[simp] theorem State.leaveWord_profile (s : State) (a : Nat) (x : AgentId) :
    (s.leaveWord a).profile x = s.profile x := rfl
@[simp] theorem State.leaveWord_guard (s : State) (a : Nat) (x : GuardId) : (s.leaveWord a).guard x = s.guard x := rfl

/-! ### produceTick -/
@[simp] theorem State.produceTick_ports (s : State) : s.produceTick.ports = s.ports := rfl
@[simp] theorem State.produceTick_manager (s : State) : s.produceTick.manager = s.manager := rfl
@[simp] theorem State.produceTick_profiles (s : State) : s.produceTick.profiles = s.profiles := rfl
@[simp] theorem State.produceTick_guards (s : State) : s.produceTick.guards = s.guards := rfl
@[simp] theorem State.produceTick_scrub (s : State) : s.produceTick.scrub = s.scrub := rfl
@[simp] theorem State.produceTick_memPort (s : State) : s.produceTick.memPort = s.memPort := rfl
@[simp] theorem State.produceTick_resetAsserted (s : State) : s.produceTick.resetAsserted = s.resetAsserted := rfl
@[simp] theorem State.produceTick_sram (s : State) : s.produceTick.sram = s.sram := rfl
@[simp] theorem State.produceTick_freeIndex (s : State) : s.produceTick.freeIndex = s.freeIndex := rfl
@[simp] theorem State.produceTick_pending (s : State) : s.produceTick.pending = s.pending := rfl
@[simp] theorem State.produceTick_port (s : State) (x : AgentId) : s.produceTick.port x = s.port x := rfl
@[simp] theorem State.produceTick_profile (s : State) (x : AgentId) : s.produceTick.profile x = s.profile x := rfl
@[simp] theorem State.produceTick_guard (s : State) (x : GuardId) : s.produceTick.guard x = s.guard x := rfl

/-! ### setActive -/
@[simp] theorem State.setActive_ports (s : State) (i : EntryId) (v : ActiveView) :
    (s.setActive i v).ports = s.ports := rfl
@[simp] theorem State.setActive_waits (s : State) (i : EntryId) (v : ActiveView) :
    (s.setActive i v).waits = s.waits := rfl
@[simp] theorem State.setActive_manager (s : State) (i : EntryId) (v : ActiveView) :
    (s.setActive i v).manager = s.manager := rfl
@[simp] theorem State.setActive_profiles (s : State) (i : EntryId) (v : ActiveView) :
    (s.setActive i v).profiles = s.profiles := rfl
@[simp] theorem State.setActive_guards (s : State) (i : EntryId) (v : ActiveView) :
    (s.setActive i v).guards = s.guards := rfl
@[simp] theorem State.setActive_scrub (s : State) (i : EntryId) (v : ActiveView) :
    (s.setActive i v).scrub = s.scrub := rfl
@[simp] theorem State.setActive_timebase (s : State) (i : EntryId) (v : ActiveView) :
    (s.setActive i v).timebase = s.timebase := rfl
@[simp] theorem State.setActive_phases (s : State) (i : EntryId) (v : ActiveView) :
    (s.setActive i v).phases = s.phases := rfl
@[simp] theorem State.setActive_memPort (s : State) (i : EntryId) (v : ActiveView) :
    (s.setActive i v).memPort = s.memPort := rfl
@[simp] theorem State.setActive_resetAsserted (s : State) (i : EntryId) (v : ActiveView) :
    (s.setActive i v).resetAsserted = s.resetAsserted := rfl
@[simp] theorem State.setActive_sram (s : State) (i : EntryId) (v : ActiveView) :
    (s.setActive i v).sram = s.sram := rfl
@[simp] theorem State.setActive_freeIndex (s : State) (i : EntryId) (v : ActiveView) :
    (s.setActive i v).freeIndex = s.freeIndex := rfl
@[simp] theorem State.setActive_pending (s : State) (i : EntryId) (v : ActiveView) :
    (s.setActive i v).pending = s.pending := rfl
@[simp] theorem State.setActive_wait (s : State) (i : EntryId) (v : ActiveView) (x : WaitId) :
    (s.setActive i v).wait x = s.wait x := rfl
@[simp] theorem State.setActive_port (s : State) (i : EntryId) (v : ActiveView) (x : AgentId) :
    (s.setActive i v).port x = s.port x := rfl
@[simp] theorem State.setActive_profile (s : State) (i : EntryId) (v : ActiveView) (x : AgentId) :
    (s.setActive i v).profile x = s.profile x := rfl
@[simp] theorem State.setActive_guard (s : State) (i : EntryId) (v : ActiveView) (x : GuardId) :
    (s.setActive i v).guard x = s.guard x := rfl

/-! ### takeWord -/
@[simp] theorem State.takeWord_ports (s : State) (l : WordLines) : (s.takeWord l).ports = s.ports := by
  unfold State.takeWord; split <;> rfl
@[simp] theorem State.takeWord_leases (s : State) (l : WordLines) : (s.takeWord l).leases = s.leases := by
  unfold State.takeWord; split <;> rfl
@[simp] theorem State.takeWord_waits (s : State) (l : WordLines) : (s.takeWord l).waits = s.waits := by
  unfold State.takeWord; split <;> rfl
@[simp] theorem State.takeWord_manager (s : State) (l : WordLines) : (s.takeWord l).manager = s.manager := by
  unfold State.takeWord; split <;> rfl
@[simp] theorem State.takeWord_profiles (s : State) (l : WordLines) : (s.takeWord l).profiles = s.profiles := by
  unfold State.takeWord; split <;> rfl
@[simp] theorem State.takeWord_guards (s : State) (l : WordLines) : (s.takeWord l).guards = s.guards := by
  unfold State.takeWord; split <;> rfl
@[simp] theorem State.takeWord_scrub (s : State) (l : WordLines) : (s.takeWord l).scrub = s.scrub := by
  unfold State.takeWord; split <;> rfl
@[simp] theorem State.takeWord_timebase (s : State) (l : WordLines) : (s.takeWord l).timebase = s.timebase := by
  unfold State.takeWord; split <;> rfl
@[simp] theorem State.takeWord_phases (s : State) (l : WordLines) : (s.takeWord l).phases = s.phases := by
  unfold State.takeWord; split <;> rfl
@[simp] theorem State.takeWord_memPort (s : State) (l : WordLines) : (s.takeWord l).memPort = s.memPort := by
  unfold State.takeWord; split <;> rfl
@[simp] theorem State.takeWord_resetAsserted (s : State) (l : WordLines) :
    (s.takeWord l).resetAsserted = s.resetAsserted := by
  unfold State.takeWord; split <;> rfl
@[simp] theorem State.takeWord_freeIndex (s : State) (l : WordLines) : (s.takeWord l).freeIndex = s.freeIndex := by
  unfold State.takeWord; split <;> rfl
@[simp] theorem State.takeWord_pending (s : State) (l : WordLines) : (s.takeWord l).pending = s.pending := by
  unfold State.takeWord; split <;> rfl
@[simp] theorem State.takeWord_entry (s : State) (l : WordLines) (i : EntryId) : (s.takeWord l).entry i = s.entry i := by
  unfold State.takeWord; split <;> rfl
@[simp] theorem State.takeWord_wait (s : State) (l : WordLines) (w : WaitId) : (s.takeWord l).wait w = s.wait w := by
  unfold State.takeWord; split <;> rfl
@[simp] theorem State.takeWord_port (s : State) (l : WordLines) (n : AgentId) : (s.takeWord l).port n = s.port n := by
  unfold State.takeWord; split <;> rfl
@[simp] theorem State.takeWord_profile (s : State) (l : WordLines) (n : AgentId) : (s.takeWord l).profile n = s.profile n := by
  unfold State.takeWord; split <;> rfl
@[simp] theorem State.takeWord_guard (s : State) (l : WordLines) (g : GuardId) : (s.takeWord l).guard g = s.guard g := by
  unfold State.takeWord; split <;> rfl

end Sys2Proof.Machine
end

