-- ==== Sys2Proof/Laws/Ops.lean ====
section
/-! SUPPORT. What each shared operation does: one lemma for each case that its definition makes, and the folds over the
entries and the wait entries. -/

namespace Sys2Proof.Machine

/-! ## Numbering -/

@[simp] theorem mem_allEntries (i : EntryId) : i ∈ allEntries := List.mem_finRange i

@[simp] theorem mem_allWaits (w : WaitId) : w ∈ allWaits := List.mem_finRange w

@[simp] theorem mem_allAgents (n : AgentId) : n ∈ allAgents := List.mem_finRange n

theorem allEntries_nodup : allEntries.Nodup := List.nodup_finRange 64

theorem allWaits_nodup : allWaits.Nodup := List.nodup_finRange 16

/-! ## The Scrub Engine's queue -/

/-- Joining an engine that is not IDLE changes the queue alone (R109, R114). -/
theorem State.joinQueue_of_busy (s : State) (i : EntryId) (h : s.scrub.mode ≠ .idle) :
    s.joinQueue i = s.setScrub
      { s.scrub with
        queue := s.scrub.queue ++ [i]
        progress := if s.scrub.queue.isEmpty then 0 else s.scrub.progress } := by
  unfold State.joinQueue
  cases e : s.scrub.mode with
  | idle => exact absurd e h
  | running => simp only [e]
  | suspending => simp only [e]
  | suspended => simp only [e]

/-- Joining an IDLE engine starts it (R114). -/
theorem State.joinQueue_of_idle (s : State) (i : EntryId) (h : s.scrub.mode = .idle) :
    s.joinQueue i = (s.setScrub
      { s.scrub with
        mode := .running
        queue := s.scrub.queue ++ [i]
        progress := if s.scrub.queue.isEmpty then 0 else s.scrub.progress }).requestChunk := by
  simp only [State.joinQueue, h]

/-- A join appends the entry to the queue, whatever the engine's state (R109). -/
theorem State.joinQueue_queue (s : State) (i : EntryId) : (s.joinQueue i).scrub.queue = s.scrub.queue ++ [i] := by
  by_cases h : s.scrub.mode = .idle
  · rw [State.joinQueue_of_idle s i h]; simp
  · rw [State.joinQueue_of_busy s i h]; rfl

/-- The chunk request of the head (R110). -/
theorem State.requestChunk_of_head (s : State) {i : EntryId} {q : List EntryId} {l : Lease}
    (hq : s.scrub.queue = i :: q) (hl : (s.entry i).body.lease? = some l) :
    s.requestChunk =
      s.setMemPort (s.memPort.requestChunk { base := l.range.base, number := s.scrub.progress }) := by
  unfold State.requestChunk
  simp only [hq, hl]

/-! ## Freeing, drain, retirement -/

@[simp] theorem State.freeEntry_entry (s : State) (i j : EntryId) :
    (s.freeEntry i).entry j = if i = j then { gen := (s.entry i).gen, body := .free } else s.entry j := by
  simp only [State.freeEntry, State.setReexamine_entry, State.setEntry_entry]

@[simp] theorem State.freeEntry_reexamine (s : State) (i : EntryId) : (s.freeEntry i).manager.reexamine = true := rfl

theorem State.drained_keep (s : State) (i : EntryId) {l : Lease} (h : l.disposition = .keep) :
    s.drained i l = s.freeEntry i := by
  simp only [State.drained, h]

theorem State.drained_scrub (s : State) (i : EntryId) {l : Lease} (h : l.disposition = .scrub) :
    s.drained i l = s.joinQueue i := by
  simp only [State.drained, h]

/-- Only entry i can change at its drain. -/
theorem State.drained_entry_ne (s : State) {i j : EntryId} (l : Lease) (h : j ≠ i) :
    (s.drained i l).entry j = s.entry j := by
  unfold State.drained
  split
  · simp [h.symm]
  · simp

/-- Retirement with the owner's access in flight inside the range (R100, R107). -/
theorem State.retire_draining (s : State) {i : EntryId} {g : BitVec 8} {o : AgentId} {l : Lease} {t : Option AgentId}
    (h : s.entry i = { gen := g, body := .active o l t }) (d : s.inFlight o l.range = true) :
    s.retire i = s.setEntry i { gen := g, body := .retiring (some o) l true } := by
  simp only [State.retire, h, d, if_true]

/-- Retirement of a KEEP lease with no access in flight inside it (R100, R108). -/
theorem State.retire_keep (s : State) {i : EntryId} {g : BitVec 8} {o : AgentId} {l : Lease} {t : Option AgentId}
    (h : s.entry i = { gen := g, body := .active o l t }) (d : s.inFlight o l.range = false)
    (k : l.disposition = .keep) :
    s.retire i = (s.setEntry i { gen := g, body := .free }).setReexamine true := by
  simp [State.retire, h, d, State.drained, k, State.freeEntry]

/-- Retirement of a SCRUB lease with no access in flight inside it (R100, R108). -/
theorem State.retire_scrub (s : State) {i : EntryId} {g : BitVec 8} {o : AgentId} {l : Lease} {t : Option AgentId}
    (h : s.entry i = { gen := g, body := .active o l t }) (d : s.inFlight o l.range = false)
    (k : l.disposition = .scrub) :
    s.retire i = (s.setEntry i { gen := g, body := .retiring (some o) l false }).joinQueue i := by
  simp [State.retire, h, d, State.drained, k]

/-- An entry that is not ACTIVE does not retire. -/
theorem State.retire_of_notActive (s : State) {i : EntryId} (h : ∀ o l t, (s.entry i).body ≠ .active o l t) :
    s.retire i = s := by
  unfold State.retire
  split
  · rename_i o l t e
    exact absurd e (h o l t)
  all_goals rfl

theorem State.retire_entry_ne (s : State) {i j : EntryId} (h : j ≠ i) : (s.retire i).entry j = s.entry j := by
  unfold State.retire
  split
  · dsimp only
    split
    · simp [h.symm]
    · simp [State.drained_entry_ne _ _ h, h.symm]
  all_goals rfl

/-- A drain entry of agent n: the four outcomes of the completion claim at one entry (R36, R108). -/
theorem State.drainEntry_of_draining (s : State) {n : AgentId} {i : EntryId} {g : BitVec 8} {l : Lease}
    (h : s.entry i = { gen := g, body := .retiring (some n) l true }) :
    State.drainEntry n s i =
      (s.setEntry i { gen := g, body := .retiring (some n) l false }).drained i l := by
  simp only [State.drainEntry, h, if_true]

theorem State.drainEntry_of_other (s : State) {n : AgentId} {i : EntryId}
    (h : ∀ l, (s.entry i).body ≠ .retiring (some n) l true) : State.drainEntry n s i = s := by
  unfold State.drainEntry
  split
  · rename_i o l e
    split
    · rename_i ho
      exact absurd (ho ▸ e) (h l)
    · rfl
  all_goals rfl

theorem State.drainEntry_entry_ne (s : State) (n : AgentId) {i j : EntryId} (h : j ≠ i) :
    (State.drainEntry n s i).entry j = s.entry j := by
  unfold State.drainEntry
  split
  · split
    · simp [State.drained_entry_ne _ _ h, h.symm]
    · rfl
  all_goals rfl

/-! ## Folds over entries -/

/-- What each application keeps, the fold keeps. -/
theorem foldl_keeps {α β : Type} {f : State → β → State} (P : State → α) (h : ∀ s i, P (f s i) = P s) :
    ∀ (l : List β) (s : State), P (l.foldl f s) = P s
  | [], _ => rfl
  | i :: l, s => (foldl_keeps P h l (f s i)).trans (h s i)

theorem State.forEntries_keeps {α : Type} {f : State → EntryId → State} (P : State → α)
    (h : ∀ s i, P (f s i) = P s) (s : State) : P (s.forEntries f) = P s := foldl_keeps P h _ s

/-- What each application keeps true, the fold keeps true. -/
theorem foldl_invariant {β : Type} {f : State → β → State} {P : State → Prop} (h : ∀ s i, P s → P (f s i)) :
    ∀ (l : List β) (s : State), P s → P (l.foldl f s)
  | [], _, p => p
  | i :: l, s, p => foldl_invariant h l (f s i) (h s i p)

theorem State.forEntries_invariant {f : State → EntryId → State} {P : State → Prop} (h : ∀ s i, P s → P (f s i))
    (s : State) (p : P s) : P (s.forEntries f) := foldl_invariant h _ s p

/-- Where each application changes its own entry alone, and all of them keep P, the fold leaves at entry i what its
application leaves there, made in a state with the same P and the same entry. -/
theorem foldl_entry {α : Type} {f : State → EntryId → State} (P : State → α) (keeps : ∀ s i, P (f s i) = P s)
    (other : ∀ s i j, j ≠ i → (f s i).entry j = s.entry j) :
    ∀ (l : List EntryId), l.Nodup → ∀ (s : State) (i : EntryId), i ∈ l →
      ∃ t, P t = P s ∧ t.entry i = s.entry i ∧ (l.foldl f s).entry i = (f t i).entry i
  | [], _, _, _, h => by cases h
  | k :: l, nd, s, i, h => by
    have nd' := List.nodup_cons.mp nd
    rcases List.mem_cons.mp h with rfl | hi
    · refine ⟨s, rfl, rfl, ?_⟩
      have still : ∀ (m : List EntryId), i ∉ m → ∀ u : State, (m.foldl f u).entry i = u.entry i := by
        intro m
        induction m with
        | nil => intro _ _; rfl
        | cons x m ih =>
          intro hm u
          have hm' := not_or.mp (mt List.mem_cons.mpr hm)
          rw [List.foldl_cons, ih hm'.2, other u x i hm'.1]
      exact still l nd'.1 (f s i)
    · obtain ⟨t, h1, h2, h3⟩ := foldl_entry P keeps other l nd'.2 (f s k) i hi
      refine ⟨t, h1.trans (keeps s k), h2.trans (other s k i fun e => nd'.1 (e ▸ hi)), h3⟩

theorem State.forEntries_entry {α : Type} {f : State → EntryId → State} (P : State → α)
    (keeps : ∀ s i, P (f s i) = P s) (other : ∀ s i j, j ≠ i → (f s i).entry j = s.entry j)
    (s : State) (i : EntryId) :
    ∃ t, P t = P s ∧ t.entry i = s.entry i ∧ (s.forEntries f).entry i = (f t i).entry i :=
  foldl_entry P keeps other _ allEntries_nodup s i (mem_allEntries i)

/-- Where each application appends its own entry or nothing to the scrub queue, by a test that looks at P and at that
entry, the fold appends the entries that pass the test, in their order (R103, R104, R108). -/
theorem foldl_queue {α : Type} {f : State → EntryId → State} (P : State → α) (keeps : ∀ s i, P (f s i) = P s)
    (other : ∀ s i j, j ≠ i → (f s i).entry j = s.entry j) (test : α → Entry → Bool)
    (joins : ∀ s i, (f s i).scrub.queue = s.scrub.queue ++ if test (P s) (s.entry i) then [i] else []) :
    ∀ (l : List EntryId), l.Nodup → ∀ s : State,
      (l.foldl f s).scrub.queue = s.scrub.queue ++ l.filter fun i => test (P s) (s.entry i)
  | [], _, _ => by simp
  | k :: l, nd, s => by
    have nd' := List.nodup_cons.mp nd
    rw [List.foldl_cons, foldl_queue P keeps other test joins l nd'.2, joins, keeps, List.append_assoc,
      List.filter_cons]
    have same : l.filter (fun i => test (P s) ((f s k).entry i)) = l.filter fun i => test (P s) (s.entry i) :=
      List.filter_congr fun i hi => by rw [other s k i fun e => nd'.1 (e ▸ hi)]
    rw [same]
    split <;> simp

theorem State.forEntries_queue {α : Type} {f : State → EntryId → State} (P : State → α)
    (keeps : ∀ s i, P (f s i) = P s) (other : ∀ s i j, j ≠ i → (f s i).entry j = s.entry j)
    (test : α → Entry → Bool)
    (joins : ∀ s i, (f s i).scrub.queue = s.scrub.queue ++ if test (P s) (s.entry i) then [i] else [])
    (s : State) :
    (s.forEntries f).scrub.queue = s.scrub.queue ++ allEntries.filter fun i => test (P s) (s.entry i) :=
  foldl_queue P keeps other test joins _ allEntries_nodup s

/-! ## The Wait List -/

/-- A resolution (R87, R90, R92). -/
theorem State.resolveWait_of_waiting (s : State) {w : WaitId} {g : BitVec 4} {n : AgentId} {q : Request}
    {d : Option Nat} (h : s.wait w = { gen := g, body := .waiting n q d }) (o : WaitOutcome) :
    s.resolveWait w o =
      ((s.setWait w { gen := g, body := .resolved n q o }).setWaitOrder
        (s.waits.order.filter (· != w))).raise .grant n := by
  simp only [State.resolveWait, h]

theorem State.resolveWait_wait_ne (s : State) {w v : WaitId} (o : WaitOutcome) (h : v ≠ w) :
    (s.resolveWait w o).wait v = s.wait v := by
  unfold State.resolveWait
  split
  · simp [h.symm]
  all_goals rfl

@[simp] theorem State.freeWait_wait (s : State) (w v : WaitId) :
    (s.freeWait w).wait v = if w = v then { gen := (s.wait w).gen, body := .free } else s.wait v := by
  simp only [State.freeWait, State.setWaitOrder_wait, State.setWait_wait]

@[simp] theorem State.freeWait_order (s : State) (w : WaitId) :
    (s.freeWait w).waits.order = s.waits.order.filter (· != w) := rfl

/-! ## Completions -/

/-- The response to an EXECUTING window (R52). -/
theorem State.respond_executing (s : State) {n : AgentId} (code : BitVec 8) (r : Reply)
    (h : (s.port n).window = .executing) :
    s.respond n code r =
      (s.setPort n
        { s.port n with
          window := .done
          status := statusWord r.status code
          result0 := r.r0
          result1 := r.r1
          result2 := r.r2 }).raise .done n := by
  simp only [State.respond, h]

/-- The response to any other window is discarded (R52). -/
theorem State.respond_discarded (s : State) {n : AgentId} (code : BitVec 8) (r : Reply)
    (h : (s.port n).window ≠ .executing) : s.respond n code r = s := by
  unfold State.respond
  cases e : (s.port n).window with
  | executing => exact absurd e h
  | idle => simp only [e]
  | pending => simp only [e]
  | done => simp only [e]
  | detaching => simp only [e]

/-- A completion of the command in hand. -/
theorem State.completeWith_of_job (s : State) {c : Command} {n : AgentId} {ps : Vector Word 8}
    (run : AgentId → Vector Word 8 → State → State × Reply) (h : s.manager.job = some (.command n c.code ps)) :
    s.completeWith c run = ((run n ps s).1.setJob none).respond n c.code (run n ps s).2 := by
  simp only [State.completeWith, h, if_true]

/-- The completion of a command that is not in hand changes nothing. -/
theorem State.completeWith_of_noJob (s : State) {c : Command}
    (run : AgentId → Vector Word 8 → State → State × Reply)
    (h : ∀ n ps, s.manager.job ≠ some (.command n c.code ps)) : s.completeWith c run = s := by
  unfold State.completeWith
  split
  · rename_i n code ps e
    split
    · rename_i hc
      exact absurd (hc ▸ e) (h n ps)
    · rfl
  all_goals rfl

/-- Either of the two. -/
theorem State.completeWith_cases (s : State) (c : Command)
    (run : AgentId → Vector Word 8 → State → State × Reply) :
    s.completeWith c run = s ∨ ∃ n ps, s.manager.job = some (.command n c.code ps) ∧
      s.completeWith c run = ((run n ps s).1.setJob none).respond n c.code (run n ps s).2 := by
  by_cases h : ∃ n ps, s.manager.job = some (.command n c.code ps)
  · obtain ⟨n, ps, h⟩ := h
    exact .inr ⟨n, ps, h, s.completeWith_of_job run h⟩
  · exact .inl (s.completeWith_of_noJob run fun n ps e => h ⟨n, ps, e⟩)

/-- What a completion with R53's checks is: nothing, a refusal DENIED, or the command's own run. -/
theorem State.complete_cases (s : State) (c : Command)
    (run : AgentId → Vector Word 8 → State → State × Reply) :
    s.complete c run = s ∨ ∃ n ps, s.manager.job = some (.command n c.code ps) ∧
      (s.complete c run = (s.setJob none).respond n c.code { status := .denied } ∨
        s.admission c n = none ∧
          s.complete c run = ((run n ps s).1.setJob none).respond n c.code (run n ps s).2) := by
  rcases s.completeWith_cases c _ with h | ⟨n, ps, hj, h⟩
  · exact .inl h
  · refine .inr ⟨n, ps, hj, ?_⟩
    rw [State.complete, h]
    split
    · rename_i st hst
      left
      have : st = .denied := by
        unfold State.admission at hst
        split at hst
        · exact (Option.some.inj hst).symm
        · split at hst
          · exact (Option.some.inj hst).symm
          · cases hst
      rw [this]
      rfl
    · rename_i hst
      exact .inr ⟨hst, rfl⟩

/-! ## The detach event -/

theorem State.detachEvent_of_detaching (s : State) {n : AgentId} (h : (s.port n).window = .detaching) :
    s.detachEvent n = s := by
  simp only [State.detachEvent, h, if_true]

theorem State.detachEvent_of_attached (s : State) {n : AgentId} (h : (s.port n).window ≠ .detaching) :
    s.detachEvent n =
      (s.setPort n
        { s.port n with
          window := .detaching
          marker := (s.port n).marker.map fun m => { m with discard := true }
          memAnswer := ((s.port n).marker.map fun m => busErrorFor m.info.kind).or (s.port n).memAnswer }).setJobList
        (s.manager.list ++ [n]) := by
  simp only [State.detachEvent, if_neg h]

end Sys2Proof.Machine
end

