-- ==== Sys2Proof/Laws/Completion.lean ====
section
/-! SUPPORT. What the completion of a command in execution is (R52, R53), and what the checks on a request test (R66 to
R69). -/

namespace Sys2Proof.Machine

/-- The response to an EXECUTING window, with the Lease Manager freed. -/
theorem State.respond_answered (s : State) {n : AgentId} (code : BitVec 8) (r : Reply)
    (h : (s.port n).window = .executing) : (s.setJob none).respond n code r = s.answered n code r :=
  State.respond_executing (s.setJob none) code r h

/-- The completion of a command in execution, without R53's checks. -/
theorem State.completeWith_of_executes (s : State) {n : AgentId} {c : Command} {ps : Vector Word 8}
    (run : AgentId → Vector Word 8 → State → State × Reply) (h : s.Executes n c ps) :
    s.completeWith c run = ((run n ps s).1.setJob none).respond n c.code (run n ps s).2 :=
  s.completeWith_of_job run h.1

/-- A command that R53 admits is refused by none of its checks. -/
theorem State.admission_of_admits (s : State) {n : AgentId} {c : Command} (h : s.Admits n c) :
    s.admission c n = none := by
  unfold State.admission
  rw [if_neg fun k => k.2 (h.1 k.1), if_neg fun k => ?_]
  rcases h.2 with e | e
  · exact k.1 e
  · exact k.2 e

/-- The completion of a command in execution that R53 admits: its own run. -/
theorem State.complete_of_runs (s : State) {n : AgentId} {c : Command} {ps : Vector Word 8}
    (run : AgentId → Vector Word 8 → State → State × Reply) (h : s.Runs n c ps) :
    s.complete c run = ((run n ps s).1.setJob none).respond n c.code (run n ps s).2 := by
  rw [State.complete, State.completeWith_of_executes s _ h.1, s.admission_of_admits h.2]

/-- The same, answered: where the run leaves the window EXECUTING. -/
theorem State.complete_answered (s : State) {n : AgentId} {c : Command} {ps : Vector Word 8}
    {run : AgentId → Vector Word 8 → State → State × Reply} {t : State} {r : Reply} (h : s.Runs n c ps)
    (e : run n ps s = (t, r)) (w : t.port n = s.port n) : s.complete c run = t.answered n c.code r := by
  rw [State.complete_of_runs s run h, e]
  exact t.respond_answered c.code r (w ▸ h.1.2)

/-! ## The checks on a request, as claims say them -/

theorem State.guardedFor_iff (s : State) (n : AgentId) (r : Range) :
    s.guardedFor n r = true ↔ ¬s.Unguarded n r := by
  simp only [State.guardedFor, State.Unguarded]
  by_cases h : n = 0 <;> simp [h]

theorem State.overQuota_iff (s : State) (n : AgentId) (r : Range) :
    s.overQuota n r = true ↔ ¬s.WithinQuota n r := by
  have h : s.overQuota n r = true ↔
      (s.profile n).leaseQuota < s.leasesHeld n + 1 ∨
        (s.profile n).pageQuota < s.pagesHeld n + 2 ^ (r.order - 12) := by
    rw [State.overQuota, Bool.or_eq_true]
    exact or_congr decide_eq_true_iff decide_eq_true_iff
  rw [h, State.WithinQuota, Classical.not_and_iff_not_or_not, Nat.not_le, Nat.not_le]

theorem State.selfOverlaps_iff (s : State) (n : AgentId) (r : Range) :
    s.selfOverlaps n r = true ↔ ¬s.NoSelfOverlap n r := by
  simp only [State.selfOverlaps, State.NoSelfOverlap, List.any_eq_true, mem_allEntries, true_and, Classical.not_forall,
    Bool.not_eq_false]
  constructor
  · rintro ⟨i, h⟩
    split at h
    · rename_i l e
      exact ⟨i, l, e, h⟩
    · cases h
  · rintro ⟨i, l, e, h⟩
    exact ⟨i, by simp [e, h]⟩

theorem State.conflicts_iff (s : State) (q : Request) : s.conflicts q = true ↔ ¬s.NoConflict q := by
  simp only [State.conflicts, State.NoConflict, List.any_eq_true, mem_allEntries, true_and, Classical.not_forall,
    Bool.not_eq_true]
  constructor
  · rintro ⟨i, h⟩
    split at h
    · rename_i l e
      exact ⟨i, l, e, by simpa using h⟩
    · cases h
  · rintro ⟨i, l, e, h⟩
    exact ⟨i, by simp [e, h]⟩

theorem State.othersWait_iff (s : State) (n : AgentId) (r : Range) :
    s.othersWait n r = true ↔ ¬s.NoneWaits n r := by
  simp only [State.othersWait, State.NoneWaits, List.any_eq_true, mem_allWaits, true_and, Classical.not_forall,
    Bool.not_eq_false, Bool.and_eq_true, bne_iff_ne]
  constructor
  · rintro ⟨w, h, k⟩
    cases e : (s.wait w).body with
    | free => simp [e, WaitBody.waitsOver] at h
    | resolved a b c => simp [e, WaitBody.waitsOver] at h
    | waiting m q d =>
      simp only [e, WaitBody.waitsOver, WaitBody.requester?] at h k
      exact ⟨w, m, q, d, e, fun c => k (by rw [c]), h⟩
  · rintro ⟨w, m, q, d, e, k, h⟩
    refine ⟨w, ?_, ?_⟩
    · simpa only [e, WaitBody.waitsOver] using h
    · simpa only [e, WaitBody.requester?, ne_eq, Option.some.injEq] using k

/-! ## The lowest number that passes a test -/

/-- In a rising list, find? answers the lowest member that passes. -/
theorem find?_lowest {k : Nat} {l : List (Fin k)} {p : Fin k → Bool} {i : Fin k} (rising : l.Pairwise (· < ·))
    (mem : i ∈ l) (pass : p i = true) (lower : ∀ j ∈ l, j < i → p j = false) : l.find? p = some i := by
  induction l with
  | nil => cases mem
  | cons a l ih =>
    rw [List.find?_cons]
    rcases List.mem_cons.mp mem with rfl | hm
    · rw [pass]
    · rw [lower a List.mem_cons_self (List.rel_of_pairwise_cons rising hm)]
      exact ih (List.pairwise_cons.mp rising).2 hm fun j hj => lower j (List.mem_cons_of_mem a hj)

theorem allEntries_rising : allEntries.Pairwise (· < ·) := List.pairwise_lt_finRange 64

theorem allWaits_rising : allWaits.Pairwise (· < ·) := List.pairwise_lt_finRange 16

theorem allPhases_rising : allPhases.Pairwise (· < ·) := List.pairwise_lt_finRange 4

theorem EntryBody.isFree_iff (b : EntryBody) : b.isFree = true ↔ b = .free := by
  cases b <;> simp [EntryBody.isFree]

theorem WaitBody.isFree_iff (b : WaitBody) : b.isFree = true ↔ b = .free := by
  cases b <;> simp [WaitBody.isFree]

/-- The entry that an allocation takes (R7). -/
theorem State.firstFree_of_lowest (s : State) {i : EntryId} (h : s.LowestFree i) : s.firstFree = some i :=
  find?_lowest allEntries_rising (mem_allEntries i) ((EntryBody.isFree_iff _).mpr h.1) fun j _ hj =>
    Bool.eq_false_iff.mpr fun k => h.2 j hj ((EntryBody.isFree_iff _).mp k)

theorem State.firstFree_of_none (s : State) (h : ∀ i, (s.entry i).body ≠ .free) : s.firstFree = none :=
  List.find?_eq_none.mpr fun i _ k => h i ((EntryBody.isFree_iff _).mp k)

/-- The wait entry that a queued request takes (R83). -/
theorem State.firstFreeWait_of_lowest (s : State) {w : WaitId} (h : s.LowestFreeWait w) :
    s.firstFreeWait = some w :=
  find?_lowest allWaits_rising (mem_allWaits w) ((WaitBody.isFree_iff _).mpr h.1) fun j _ hj =>
    Bool.eq_false_iff.mpr fun k => h.2 j hj ((WaitBody.isFree_iff _).mp k)

theorem State.firstFreeWait_of_none (s : State) (h : ∀ w, (s.wait w).body ≠ .free) : s.firstFreeWait = none :=
  List.find?_eq_none.mpr fun w _ k => h w ((WaitBody.isFree_iff _).mp k)

end Sys2Proof.Machine
end

