-- ==== Sys2Proof/Laws/Memory.lean ====
section
/-! SUPPORT. The SRAM list: what a write leaves to be read, that every operation keeps the canonical form, and what a
word's lines put into the array and take from it. -/

namespace Sys2Proof.Machine

namespace Memory

theorem above_mono {a b : Nat} (h : a ≤ b) : ∀ {m : Memory}, above b m = true → above a m = true
  | [], _ => rfl
  | (x, _) :: m, hm => by
    simp only [above, Bool.and_eq_true, decide_eq_true_eq] at hm ⊢
    exact ⟨by omega, above_mono h hm.2⟩

theorem above_write {x a : Nat} (b : Byte) (h : x < a) : ∀ {m : Memory}, above x m = true → above x (m.write a b) = true
  | [], _ => by simp [write, above, h]
  | (y, c) :: m, hm => by
    simp only [above, Bool.and_eq_true, decide_eq_true_eq] at hm
    unfold write
    split
    · simp [above, h, hm.1, hm.2]
    · split
      · simp [above, h, hm.2]
      · simp [above, hm.1, above_write b h hm.2]

/-- A write keeps the canonical form. -/
theorem wf_write (a : Nat) (b : Byte) : ∀ {m : Memory}, m.wf = true → (m.write a b).wf = true
  | [], _ => rfl
  | (x, c) :: m, hm => by
    simp only [wf, Bool.and_eq_true] at hm
    unfold write
    split
    · rename_i h
      simp only [wf, above, Bool.and_eq_true, decide_eq_true_eq]
      exact ⟨⟨h, above_mono (Nat.le_of_lt h) hm.1⟩, hm⟩
    · split
      · rename_i h
        subst h
        simpa only [wf, Bool.and_eq_true] using hm
      · simp only [wf, Bool.and_eq_true]
        exact ⟨above_write b (by omega) hm.1, wf_write a b hm.2⟩

theorem wf_writeAll : ∀ (l : List Host.Cell) {m : Memory}, m.wf = true → (m.writeAll l).wf = true
  | [], _, hm => hm
  | c :: l, _, hm => wf_writeAll l (wf_write c.1 c.2 hm)

/-- What a read after a write finds. -/
theorem read_write (a : Nat) (b : Byte) (k : Nat) :
    ∀ m : Memory, (m.write a b).read k = if a = k then some b else m.read k
  | [] => rfl
  | (x, c) :: m => by
    unfold write
    split
    · rfl
    · split
      · rename_i h
        subst h
        simp only [read]
        split <;> rfl
      · simp only [read, read_write a b k m]
        split
        · rename_i hx
          rw [if_neg (by omega)]
        · rfl

theorem read_writeAll_of_notMem (k : Nat) :
    ∀ (l : List Host.Cell) (m : Memory), (∀ c ∈ l, c.1 ≠ k) → (m.writeAll l).read k = m.read k
  | [], _, _ => rfl
  | c :: l, m, h => by
    rw [show m.writeAll (c :: l) = (m.write c.1 c.2).writeAll l from rfl,
      read_writeAll_of_notMem k l _ fun d hd => h d (List.mem_cons_of_mem _ hd), read_write,
      if_neg (h c List.mem_cons_self)]

theorem read_writeAll_of_mem {k : Nat} {b : Byte} : ∀ {l : List Host.Cell} (m : Memory),
    (k, b) ∈ l → (∀ c ∈ l, c.1 = k → c.2 = b) → (m.writeAll l).read k = some b
  | [], _, h, _ => by cases h
  | c :: l, m, h, u => by
    rw [show m.writeAll (c :: l) = (m.write c.1 c.2).writeAll l from rfl]
    by_cases hl : (k, b) ∈ l
    · exact read_writeAll_of_mem _ hl fun d hd => u d (List.mem_cons_of_mem _ hd)
    · have hc : (k, b) = c := (List.mem_cons.mp h).resolve_right hl
      subst hc
      rw [read_writeAll_of_notMem k l _ fun d hd he => hl ?_, read_write, if_pos rfl]
      rw [show (k, b) = d from Prod.ext he.symm (u d (List.mem_cons_of_mem _ hd) he).symm]
      exact hd

end Memory

/-- A byte outside the cells stored keeps its value. -/
theorem State.sramByte_store_of_notMem (s : State) (l : List Host.Cell) (k : Nat) (h : ∀ c ∈ l, c.1 ≠ k) :
    (s.store l).sramByte k = s.sramByte k := by
  simp only [State.sramByte, State.store_sram, Memory.read_writeAll_of_notMem k l _ h]

/-- A byte stored once reads back. -/
theorem State.sramByte_store_of_mem (s : State) {l : List Host.Cell} {k : Nat} {b : Byte} (h : (k, b) ∈ l)
    (u : ∀ c ∈ l, c.1 = k → c.2 = b) : (s.store l).sramByte k = b := by
  simp only [State.sramByte, State.store_sram, Memory.read_writeAll_of_mem _ h u, Option.getD_some]

theorem State.store_wf (s : State) (l : List Host.Cell) (h : s.sram.wf = true) : (s.store l).sram.wf = true :=
  Memory.wf_writeAll l h

theorem State.leaveWord_wf (s : State) (x : BitVec 22) (h : s.sram.wf = true) : (s.leaveWord x).sram.wf = true :=
  Memory.wf_writeAll _ h

theorem State.takeWord_wf (s : State) (l : WordLines) (h : s.sram.wf = true) : (s.takeWord l).sram.wf = true := by
  unfold State.takeWord
  split
  · exact s.store_wf _ h
  · exact h

theorem State.reset_wf : State.reset.sram.wf = true := rfl

/-! ## The lines of a word -/

/-- MA[23:2] addresses the word that contains the access. -/
theorem AccessInfo.wordLine_toNat (a : AccessInfo) : 4 * a.wordLine.toNat = a.addr.toNat / 4 * 4 := by
  have h : a.addr.toNat < 2 ^ 24 := a.addr.isLt
  simp only [wordLine, BitVec.extractLsb'_toNat, Nat.shiftRight_eq_div_pow]
  omega

/-- MA[23:2] of a chunk's word, for a chunk that lies in the array (R184). -/
theorem Chunk.wordLine_toNat (c : Chunk) (k : Nat) (b : c.base.toNat % 4 = 0)
    (h : c.base.toNat + 256 * c.number + 4 * k < 2 ^ 24) :
    4 * (c.wordLine k).toNat = c.base.toNat + 256 * c.number + 4 * k := by
  simp only [wordLine, BitVec.extractLsb'_toNat, BitVec.toNat_add, BitVec.toNat_ofNat, Nat.shiftRight_eq_div_pow]
  omega

/-- The cells of a word are its bytes on the enabled lanes. -/
theorem mem_wordCells {x : BitVec 22} {be : BitVec 4} {w : Word} {c : Host.Cell} :
    c ∈ wordCells x be w ↔ ∃ k < 4, be.getLsbD k = true ∧ c = (4 * x.toNat + k, lane w k) := by
  simp only [wordCells, List.mem_map, List.mem_filter, List.mem_range]
  constructor
  · rintro ⟨k, ⟨hk, hb⟩, rfl⟩
    exact ⟨k, hk, hb, rfl⟩
  · rintro ⟨k, hk, hb, rfl⟩
    exact ⟨k, ⟨hk, hb⟩, rfl⟩

/-- A byte outside the word keeps its value, whatever lanes are stored. -/
theorem State.sramByte_storeWord_of_outside (s : State) {x : BitVec 22} (be : BitVec 4) (w : Word) {b : Nat}
    (h : b < 4 * x.toNat ∨ 4 * x.toNat + 3 < b) : (s.store (wordCells x be w)).sramByte b = s.sramByte b := by
  refine s.sramByte_store_of_notMem _ b fun c hc => ?_
  obtain ⟨k, hk, -, rfl⟩ := mem_wordCells.mp hc
  dsimp only
  omega

/-- A byte of the word is stored where its lane is enabled, and keeps its value elsewhere. -/
theorem State.sramByte_storeWord (s : State) (x : BitVec 22) (be : BitVec 4) (w : Word) {k : Nat} (hk : k < 4) :
    (s.store (wordCells x be w)).sramByte (4 * x.toNat + k) =
      if be.getLsbD k = true then lane w k else s.sramByte (4 * x.toNat + k) := by
  split
  · rename_i hb
    refine s.sramByte_store_of_mem (mem_wordCells.mpr ⟨k, hk, hb, rfl⟩) fun c hc he => ?_
    obtain ⟨j, -, -, rfl⟩ := mem_wordCells.mp hc
    exact congrArg (lane w) (Nat.add_left_cancel he)
  · rename_i hb
    refine s.sramByte_store_of_notMem _ _ fun c hc he => ?_
    obtain ⟨j, -, hj, rfl⟩ := mem_wordCells.mp hc
    exact hb (Nat.add_left_cancel he ▸ hj)

/-- A word that is left as the array left it changes its own four bytes alone. -/
theorem State.sramByte_leaveWord (s : State) {x : BitVec 22} {b : Nat}
    (h : b < 4 * x.toNat ∨ 4 * x.toNat + 3 < b) : (s.leaveWord x).sramByte b = s.sramByte b :=
  s.sramByte_storeWord_of_outside _ _ h

/-- The end of a read takes nothing into the array. -/
theorem State.takeWord_read (s : State) {l : WordLines} (h : l.md = none) : s.takeWord l = s := by
  simp only [State.takeWord, h]

/-- The end of a write puts the enabled lanes of MD into the array (R182). -/
theorem State.takeWord_write (s : State) {l : WordLines} {d : Word} (h : l.md = some d) :
    s.takeWord l = s.store (wordCells l.ma l.mbe d) := by
  simp only [State.takeWord, h]

/-- The word of a chunk stores four zeros (R184). -/
theorem Chunk.takeWord_lines (s : State) (c : Chunk) (k : Nat) :
    s.takeWord (c.lines k) = s.store
      [(4 * (c.wordLine k).toNat, 0), (4 * (c.wordLine k).toNat + 1, 0), (4 * (c.wordLine k).toNat + 2, 0),
       (4 * (c.wordLine k).toNat + 3, 0)] := by
  simp [State.takeWord, Chunk.lines, wordCells, lane, List.range_succ]

/-- Four bytes as one word: byte lane k is the k-th from the right. -/
theorem getLsbD_append4 (a b c d : Byte) (i : Nat) :
    (a ++ b ++ c ++ d).getLsbD i =
      if i < 8 then d.getLsbD i
      else if i < 16 then c.getLsbD (i - 8)
      else if i < 24 then b.getLsbD (i - 16)
      else a.getLsbD (i - 24) := by
  simp only [BitVec.getLsbD_append, Nat.sub_sub]
  repeat' split
  all_goals first | rfl | omega

/-- Lane k of a whole word read is its byte k. -/
theorem State.lane_sramWord (s : State) (x : BitVec 22) {k : Nat} (hk : k < 4) :
    lane (s.sramWord x) k = s.sramByte (4 * x.toNat + k) := by
  refine BitVec.eq_of_getLsbD_eq fun i hi => ?_
  simp only [lane, BitVec.getLsbD_extractLsb', hi, decide_true, Bool.true_and]
  refine (getLsbD_append4 _ _ _ _ _).trans ?_
  have : k = 0 ∨ k = 1 ∨ k = 2 ∨ k = 3 := by omega
  rcases this with rfl | rfl | rfl | rfl
  · rw [if_pos (by omega)]; simp
  · rw [if_neg (by omega), if_pos (by omega)]; simp
  · rw [if_neg (by omega), if_neg (by omega), if_pos (by omega)]; simp
  · rw [if_neg (by omega), if_neg (by omega), if_neg (by omega)]; simp

/-- The bytes of an aligned access, in its word, are on the lanes of its address and size (R22, R183). -/
theorem AccessInfo.mem_byteAddresses (a : AccessInfo) (h : a.addr.toNat % a.size.bytes = 0) {k : Nat} (hk : k < 4) :
    4 * a.wordLine.toNat + k ∈ a.byteAddresses ↔ a.lanes.getLsbD k = true := by
  have hk : k = 0 ∨ k = 1 ∨ k = 2 ∨ k = 3 := by omega
  rw [a.wordLine_toNat]
  simp only [byteAddresses, lanes, List.mem_map, List.mem_range]
  cases z : a.size <;> rw [z] at h <;> simp only [Size.bytes] at h ⊢
  · have hr : a.addr.toNat % 4 = 0 ∨ a.addr.toNat % 4 = 1 ∨ a.addr.toNat % 4 = 2 ∨ a.addr.toNat % 4 = 3 := by omega
    rcases hr with hr | hr | hr | hr <;> rcases hk with rfl | rfl | rfl | rfl <;> simp [hr] <;> omega
  · have hr : a.addr.toNat % 4 = 0 ∨ a.addr.toNat % 4 = 2 := by omega
    rcases hr with hr | hr <;> rcases hk with rfl | rfl | rfl | rfl <;> simp [hr] <;>
      first | omega | exact ⟨0, by omega⟩ | exact ⟨1, by omega⟩
  · have hr : a.addr.toNat % 4 = 0 := by omega
    rcases hk with rfl | rfl | rfl | rfl <;> simp [hr]
    all_goals first | omega | exact ⟨0, by omega⟩ | exact ⟨1, by omega⟩ | exact ⟨2, by omega⟩ | exact ⟨3, by omega⟩

/-- The bytes of an aligned access lie in its word. -/
theorem AccessInfo.byteAddresses_inWord (a : AccessInfo) (h : a.addr.toNat % a.size.bytes = 0) {b : Nat}
    (hb : b ∈ a.byteAddresses) : b = 4 * a.wordLine.toNat + b % 4 := by
  rw [a.wordLine_toNat]
  simp only [byteAddresses, List.mem_map, List.mem_range] at hb
  obtain ⟨k, hk, rfl⟩ := hb
  cases z : a.size <;> rw [z] at h hk <;> simp only [Size.bytes] at h hk <;> omega

/-- A read of an aligned access returns the bytes at its addresses (R34). -/
theorem State.readBytes_eq (s : State) (a : AccessInfo) (h : a.addr.toNat % a.size.bytes = 0) :
    s.readBytes a = a.byteAddresses.map s.sramByte := by
  refine List.map_congr_left fun b hb => ?_
  rw [s.lane_sramWord _ (Nat.mod_lt b (by decide)), ← a.byteAddresses_inWord h hb]

/-- The end of an aligned write puts its addressed bytes into the array, and no other (R34, R183). -/
theorem State.sramByte_takeWord (s : State) {a : Access} (w : a.info.kind = .dataWrite)
    (h : a.info.addr.toNat % a.info.size.bytes = 0) (b : Nat) :
    (s.takeWord a.lines).sramByte b =
      if b ∈ a.info.byteAddresses then lane a.data (b % 4) else s.sramByte b := by
  have e : s.takeWord a.lines = s.store (wordCells a.info.wordLine a.info.lanes a.data) := by
    simp only [State.takeWord, Access.lines, w]
  rw [e]
  by_cases i : b / 4 = a.info.wordLine.toNat
  · have hk : b % 4 < 4 := Nat.mod_lt b (by decide)
    have hb : b = 4 * a.info.wordLine.toNat + b % 4 := by omega
    have l := s.sramByte_storeWord a.info.wordLine a.info.lanes a.data hk
    rw [← hb] at l
    have m := a.info.mem_byteAddresses h hk
    rw [← hb] at m
    simp only [l, m]
  · have out : b ∉ a.info.byteAddresses := fun hb => by
      have := a.info.byteAddresses_inWord h hb
      omega
    rw [if_neg out, s.sramByte_storeWord_of_outside _ _ (by omega)]

end Sys2Proof.Machine
end

