-- ==== Sys2Proof/Laws/MemoryPort.lean ====
section
/-! SUPPORT. The Memory Port: what each grant decision chooses, the lines of each grant, the word in progress, and what
the end of a word does. -/

namespace Sys2Proof.Machine.MemoryPort

/-! ## The lines -/

@[simp] theorem grantAgent_lines (m : MemoryPort) (n : AgentId) (a : Access) (w : Bool) :
    (m.grantAgent n a w).lines = some a.lines := rfl

@[simp] theorem grantChunk_lines (m : MemoryPort) (c : Chunk) : (m.grantChunk c).lines = some (c.lines 0) := rfl

@[simp] theorem nextWord_lines (m : MemoryPort) (c : Chunk) (k : Nat) :
    (m.nextWord c k).lines = some (c.lines (k + 1)) := rfl

@[simp] theorem endGrant_lines (m : MemoryPort) : m.endGrant.lines = none := rfl

@[simp] theorem grantAgent_mstb (m : MemoryPort) (n : AgentId) (a : Access) (w : Bool) :
    (m.grantAgent n a w).mstb = true := rfl

@[simp] theorem grantChunk_mstb (m : MemoryPort) (c : Chunk) : (m.grantChunk c).mstb = true := rfl

/-- MSTB is deasserted between two words of a chunk (R182). -/
@[simp] theorem nextWord_mstb (m : MemoryPort) (c : Chunk) (k : Nat) : (m.nextWord c k).mstb = false := rfl

@[simp] theorem endGrant_mstb (m : MemoryPort) : m.endGrant.mstb = false := rfl

/-! ## The word in progress -/

theorem wordInProgress_of_strobe {m : MemoryPort} (h : m.strobe ≠ none) : m.wordInProgress = m.grant := by
  rw [wordInProgress, mstb, if_pos (Option.isSome_iff_ne_none.mpr h)]

theorem wordInProgress_of_noStrobe {m : MemoryPort} (h : m.strobe = none) : m.wordInProgress = none := by
  simp [wordInProgress, mstb, h]

theorem wordInProgress_of_noGrant {m : MemoryPort} (h : m.grant = none) : m.wordInProgress = none := by
  simp [wordInProgress, h]

@[simp] theorem grantAgent_wordInProgress (m : MemoryPort) (n : AgentId) (a : Access) (w : Bool) :
    (m.grantAgent n a w).wordInProgress = some (.agent n a) := rfl

@[simp] theorem grantChunk_wordInProgress (m : MemoryPort) (c : Chunk) :
    (m.grantChunk c).wordInProgress = some (.chunk c 0) := rfl

@[simp] theorem nextWord_wordInProgress (m : MemoryPort) (c : Chunk) (k : Nat) :
    (m.nextWord c k).wordInProgress = none := rfl

@[simp] theorem endGrant_wordInProgress (m : MemoryPort) : m.endGrant.wordInProgress = none := rfl

/-! ## The decisions -/

/-- The ports after p, p itself last, are all six. -/
theorem mem_portsAfter (p n : AgentId) : n ∈ portsAfter p := by
  revert p n; decide

/-- The agent chosen next has a request waiting. -/
theorem nextAgent_request {m : MemoryPort} {n : AgentId} {a : Access} (h : m.nextAgent = some (n, a)) :
    m.requests[n] = some a := by
  obtain ⟨k, -, hk⟩ := List.exists_of_findSome?_eq_some h
  cases e : m.requests[k] with
  | none => simp [e] at hk
  | some b =>
    simp only [e, Option.map_some, Option.some.injEq, Prod.mk.injEq] at hk
    obtain ⟨rfl, rfl⟩ := hk
    exact e

/-- None is chosen exactly when no request waits. -/
theorem nextAgent_none {m : MemoryPort} : m.nextAgent = none ↔ ∀ n : AgentId, m.requests[n] = none := by
  unfold nextAgent
  rw [List.findSome?_eq_none_iff]
  constructor
  · intro h n
    simpa using h n (mem_portsAfter _ n)
  · intro h n _
    simp only [h n, Option.map_none]

theorem agentWaiting_false {m : MemoryPort} : m.agentWaiting = false ↔ ∀ n : AgentId, m.requests[n] = none := by
  simp [agentWaiting]

theorem nextAgent_none_iff_notWaiting {m : MemoryPort} : m.nextAgent = none ↔ m.agentWaiting = false :=
  nextAgent_none.trans agentWaiting_false.symm

/-- No decision is taken while a grant is current (R181). -/
theorem decide_of_grant {m : MemoryPort} {g : Grant} (h : m.grant = some g) : m.decide = m := by
  simp only [decide, h]

/-- The decision at the end of a grant is made among every waiting request (R181). -/
theorem decide_endOfGrant {m : MemoryPort} (h : m.grant = none) (d : m.due = .endOfGrant) : m.decide = m.decideAll := by
  simp only [decide, h, d]

/-- The arrival of an agent's request at a free port is decided alone (R181). -/
theorem decide_agentArrival {m : MemoryPort} {n : AgentId} {a : Access} (h : m.grant = none)
    (d : m.due = .arrival (.agent n)) (r : m.requests[n] = some a) : m.decide = m.grantAgent n a false := by
  simp only [decide, h, d, r]

/-- The arrival of a chunk request at a free port is decided alone (R181). -/
theorem decide_chunkArrival {m : MemoryPort} {c : Chunk} (h : m.grant = none) (d : m.due = .arrival .chunk)
    (r : m.chunk = some c) : m.decide = m.grantChunk c := by
  simp only [decide, h, d, r]

/-- The chunk is chosen where no agent waits (R181 item 1). -/
theorem decideAll_chunk_alone {m : MemoryPort} {c : Chunk} (h : m.chunk = some c) (w : m.agentWaiting = false) :
    m.decideAll = m.grantChunk c := by
  simp only [decideAll, h, nextAgent_none_iff_notWaiting.mpr w]

/-- The chunk is chosen where the credit stands at 16 (R181 item 1). -/
theorem decideAll_chunk_credit {m : MemoryPort} {c : Chunk} (h : m.chunk = some c) (k : 16 ≤ m.credit) :
    m.decideAll = m.grantChunk c := by
  unfold decideAll
  cases e : m.nextAgent with
  | none => simp only [h]
  | some p => simp only [h, k, if_true]

/-- Otherwise the first agent after the pointer is chosen (R181 item 2). -/
theorem decideAll_agent {m : MemoryPort} {n : AgentId} {a : Access} (h : m.nextAgent = some (n, a))
    (k : m.chunk = none ∨ m.credit < 16) : m.decideAll = m.grantAgent n a m.chunk.isSome := by
  unfold decideAll
  cases e : m.chunk with
  | none => simp [h]
  | some c =>
    have : ¬16 ≤ m.credit := by
      rcases k with k | k
      · rw [e] at k; cases k
      · omega
    simp [h, this]

/-- Where nothing waits, only the decision itself is spent. -/
theorem decideAll_idle {m : MemoryPort} (h : m.chunk = none) (w : m.agentWaiting = false) :
    m.decideAll = { m with due := .none } := by
  simp only [decideAll, h, nextAgent_none_iff_notWaiting.mpr w]

end Sys2Proof.Machine.MemoryPort

/-! ## The end of a word -/

namespace Sys2Proof.Machine.State

/-- MACK, MERR and the timeout are ignored while no word is in progress (R182). -/
theorem wordDone_of_noWord {s : State} (h : s.memPort.wordInProgress = none) : s.wordDone = s := by
  simp only [wordDone, h]

theorem wordFailed_of_noWord {s : State} (h : s.memPort.wordInProgress = none) : s.wordFailed = s := by
  simp only [wordFailed, h]

theorem wordDone_of_agent {s : State} {n : AgentId} {a : Access}
    (h : s.memPort.wordInProgress = some (.agent n a)) : s.wordDone = s.accessDone n a := by
  simp only [wordDone, h]

theorem wordFailed_of_agent {s : State} {n : AgentId} {a : Access}
    (h : s.memPort.wordInProgress = some (.agent n a)) : s.wordFailed = s.accessFailed n a := by
  simp only [wordFailed, h]

/-- A word of a chunk before word 63: a word of zeros, and MSTB deasserted under the same grant (R184). -/
theorem wordDone_of_chunkWord {s : State} {c : Chunk} {k : Nat}
    (h : s.memPort.wordInProgress = some (.chunk c k)) (l : k < 63) :
    s.wordDone = (s.takeWord (c.lines k)).setMemPort (s.memPort.nextWord c k) := by
  simp only [wordDone, h, if_pos l]
  rfl

/-- Word 63 of a chunk: a word of zeros, the end of the grant, and the chunk completion (R111, R184). -/
theorem wordDone_of_lastWord {s : State} {c : Chunk} {k : Nat}
    (h : s.memPort.wordInProgress = some (.chunk c k)) (l : 63 ≤ k) :
    s.wordDone = ((s.takeWord (c.lines k)).setMemPort s.memPort.endGrant).chunkDone := by
  simp only [wordDone, h, if_neg (Nat.not_lt.mpr l)]
  rfl

/-- A chunk ends at its failed word (R119, R184). -/
theorem wordFailed_of_chunk {s : State} {c : Chunk} {k : Nat}
    (h : s.memPort.wordInProgress = some (.chunk c k)) :
    s.wordFailed = ((s.leaveWord (c.wordLine k)).setMemPort s.memPort.endGrant).chunkFailed := by
  simp only [wordFailed, h]

end Sys2Proof.Machine.State
end

