-- ==== Sys2Proof/Laws/Request.lean ====
section
/-! SUPPORT. What the parameters of ACQUIRE spell: the fields of the request, and when they spell none (R61, R63). -/

namespace Sys2Proof.Machine

/-- The share mode of bits 9:8 (R61). -/
theorem shareField_eq_some {w : Word} {x : Share} :
    shareField w = some x ↔ x = .exclusive ∧ field w 8 2 = 0 ∨ x = .sharedRead ∧ field w 8 2 = 1 ∨
      x = .shared ∧ field w 8 2 = 2 := by
  have h : field w 8 2 < 4 := field_lt w 8 2
  have h : field w 8 2 = 0 ∨ field w 8 2 = 1 ∨ field w 8 2 = 2 ∨ field w 8 2 = 3 := by omega
  unfold shareField
  rcases h with h | h | h | h <;> cases x <;> simp [h]

/-- Share mode 3 has no meaning (R61). -/
theorem shareField_eq_none {w : Word} : shareField w = none ↔ field w 8 2 = 3 := by
  have h : field w 8 2 < 4 := field_lt w 8 2
  have h : field w 8 2 = 0 ∨ field w 8 2 = 1 ∨ field w 8 2 = 2 ∨ field w 8 2 = 3 := by omega
  unfold shareField
  rcases h with h | h | h | h <;> simp [h]

/-- The life of term mode, Term and Warn (R61, R63). -/
theorem lifeField_eq_some {v w : Word} {x : RequestLife} :
    lifeField v w = some x ↔ x = .timed .fixed (field w 0 16) (field w 16 16) ∧ field v 0 2 = 0 ∨
      x = .timed .activity (field w 0 16) (field w 16 16) ∧ field v 0 2 = 1 ∨ x = .pinned ∧ field v 0 2 = 2 := by
  have h : field v 0 2 < 4 := field_lt v 0 2
  have h : field v 0 2 = 0 ∨ field v 0 2 = 1 ∨ field v 0 2 = 2 ∨ field v 0 2 = 3 := by omega
  unfold lifeField
  rcases h with h | h | h | h <;> simp [h, eq_comm]

/-- Term mode 3 has no meaning (R61). -/
theorem lifeField_eq_none {v w : Word} : lifeField v w = none ↔ field v 0 2 = 3 := by
  have h : field v 0 2 < 4 := field_lt v 0 2
  have h : field v 0 2 = 0 ∨ field v 0 2 = 1 ∨ field v 0 2 = 2 ∨ field v 0 2 = 3 := by omega
  unfold lifeField
  rcases h with h | h | h | h <;> simp [h]

/-- ACQUIRE's parameters spell no request exactly under share mode 3 or term mode 3 (R61, R63). -/
theorem decodeRequest_eq_none {ps : Vector Word 8} :
    decodeRequest ps = none ↔ field ps[2] 8 2 = 3 ∨ field ps[3] 0 2 = 3 := by
  rw [← shareField_eq_none, ← lifeField_eq_none (w := ps[4])]
  unfold decodeRequest
  cases shareField ps[2] <;> cases lifeField ps[3] ps[4] <;> simp

/-- The phase of PARAM5 (R61, R63). -/
theorem phaseField_eq {w : Word} {x : Option Phase} :
    phaseField w = x ↔ x = none ∧ bit w 7 = false ∨ ∃ p, x = some p ∧ bit w 7 = true ∧ p.val = field w 0 2 := by
  unfold phaseField
  cases h : bit w 7
  · simp [eq_comm]
  · cases x with
    | none => simp
    | some p =>
      simp only [if_true, Option.some.injEq, reduceCtorEq, false_and, false_or, true_and, exists_eq_left']
      exact ⟨fun e => e ▸ rfl, fun e => Fin.ext e.symm⟩

/-- A flag picks the second of two values exactly where it is set. -/
theorem ite_second_iff {α : Type} {b : Bool} {x y z : α} (hxy : x ≠ y) (hz : z = x ∨ z = y) :
    (if b = true then y else x) = z ↔ (z = y ↔ b = true) := by
  rcases hz with rfl | rfl <;> cases b <;> simp [hxy, hxy.symm]

/-- The request that ACQUIRE's parameters spell is the one decoded from them (R61, R63). -/
theorem Request.readFrom_iff {q : Request} {ps : Vector Word 8} : q.ReadFrom ps ↔ decodeRequest ps = some q := by
  have e : decodeRequest ps = some q ↔
      rangeField ps[0] ps[1] = q.range ∧ rightsField ps[2] = q.rights ∧
        (if bit ps[2] 4 = true then Floor.priv else .any) = q.floor ∧ shareField ps[2] = some q.share ∧
        lifeField ps[3] ps[4] = some q.life ∧
        (if bit ps[3] 4 = true then Disposition.scrub else .keep) = q.disposition ∧ phaseField ps[5] = q.phase := by
    obtain ⟨range, rights, floor, share, life, disposition, phase⟩ := q
    unfold decodeRequest
    cases shareField ps[2] <;> cases lifeField ps[3] ps[4] <;>
      simp only [reduceCtorEq, false_and, and_false, Option.some.injEq, Request.mk.injEq]
  have range : rangeField ps[0] ps[1] = q.range ↔
      q.range.base.toNat = field ps[0] 0 24 ∧ q.range.order = field ps[1] 0 5 := by
    obtain ⟨⟨base, order⟩⟩ := q
    simp only [rangeField, Range.mk.injEq, ← BitVec.toNat_inj, field]
    exact and_congr eq_comm eq_comm
  have rights : rightsField ps[2] = q.rights ↔
      q.rights.r = bit ps[2] 0 ∧ q.rights.w = bit ps[2] 1 ∧ q.rights.x = bit ps[2] 2 := by
    obtain ⟨-, ⟨r, w, x⟩⟩ := q
    simp only [rightsField, Rights.mk.injEq]
    exact and_congr eq_comm (and_congr eq_comm eq_comm)
  rw [e, range, rights, shareField_eq_some, lifeField_eq_some, phaseField_eq,
    ite_second_iff (by decide) (by cases q.floor <;> simp),
    ite_second_iff (by decide) (by cases q.disposition <;> simp)]
  simp only [ReadFrom, and_assoc]

end Sys2Proof.Machine
end

