-- ==== Sys2Proof/Laws/Step.lean ====
section
/-! SUPPORT. What a step does: every command answers a next state, and a step is a command or one clock. -/

namespace Sys2Proof.Machine

/-- No command stops the block. -/
theorem exec_next (c : Instr) (s : State) : ∃ t, exec c s = .next t := by
  cases c <;>
    simp only [exec, execAccessDecode, execFaultReport, execMemoryGrant, execMack, execMerr, execAcknowledgeTimeout,
      execLmTake, execPassStep, execTeardown, execAcquire, execRenew, execNarrow, execRelease, execQuery, execFind,
      execCollect, execCancel, execOffer, execAccept, execDecline, execFault, execProfile, execRevoke, execDetach,
      execSetProfile, execLockProfile, execSetGuard, execSetTimebase, execTimebaseStop, execTimebaseStart,
      execSetPhases, execScrubHold, execScrubGo, execRetry, execForget, execParamWrite, execIntstatWrite,
      execIntenWrite, execWindowWrite, execTick, execExpiry, execWaitTimeout, execPhaseAdvance, execOpening,
      execNoneClaim, execAgrstAssert, execAgrstRelease, execResetAssert, execResetRelease, execCommandWrite,
      execBadCmd] <;>
    first
      | exact ⟨_, rfl⟩
      | (repeat' split) <;> exact ⟨_, rfl⟩

/-- A step runs the command at the front of the queue on the state with the queue's rest. -/
theorem step_front (s : State) {c : Instr} {rest : List Instr} (h : s.pending = c :: rest) :
    step s = exec c { s with pending := rest } := by
  simp only [step, h]

/-- A step on an empty queue is one clock. -/
theorem step_idle (s : State) (h : s.pending = []) : step s = .next s.clock := by
  simp only [step, h]

/-- What a step that answers a next state did. -/
theorem step_cases {s t : State} (h : step s = .next t) :
    (∃ c rest, s.pending = c :: rest ∧ exec c { s with pending := rest } = .next t) ∨
      s.pending = [] ∧ t = s.clock := by
  cases e : s.pending with
  | nil =>
    rw [step_idle s e] at h
    exact .inr ⟨rfl, (Host.Outcome.next.inj h).symm⟩
  | cons c rest =>
    rw [step_front s e] at h
    exact .inl ⟨c, rest, rfl, h⟩

/-- A property that does not look at the queue, that every command keeps and that a clock keeps, is kept by a step. -/
theorem step_keeps {P : State → Prop} (queue : ∀ (s : State) (l : List Instr), P s → P { s with pending := l })
    (command : ∀ c s t, exec c s = .next t → P s → P t) (clock : ∀ s, P s → P s.clock) {s t : State} (p : P s)
    (h : step s = .next t) : P t := by
  rcases step_cases h with ⟨c, rest, -, h⟩ | ⟨-, rfl⟩
  · exact command c _ t h (queue s rest p)
  · exact clock s p

end Sys2Proof.Machine
end

