-- ==== Sys2Proof/Laws/Window.lean ====
section
/-! SUPPORT. The window select: what a cycle that is presented, held off or taken does. -/

namespace Sys2Proof.Machine

/-- Under RESET a presented window cycle is held off, and nothing else changes (R43, R185). -/
theorem State.presentWindow_reset (s : State) (n : AgentId) (c : WindowCycle) (take : State → State)
    (h : s.resetAsserted = true) :
    s.presentWindow n c take = s.setPort n { s.port n with heldWindow := some c } := by
  simp only [State.presentWindow, h, if_true, State.setHeldWindow]

/-- Otherwise it is taken, and none is held off. -/
theorem State.presentWindow_taken (s : State) (n : AgentId) (c : WindowCycle) (take : State → State)
    (h : s.resetAsserted = false) :
    s.presentWindow n c take = take (s.setPort n { s.port n with heldWindow := none }) := by
  simp [State.presentWindow, h, State.setHeldWindow]

/-- The cycle of a write to a word is a word access to it. -/
theorem wordWrite_isWord (k : Fin 16) (v : Word) :
    (wordWrite k v).isWord = true ∧ (wordWrite k v).word = k ∧ (wordWrite k v).write = true ∧
      (wordWrite k v).data = v := by
  have all : ∀ k : Fin 16, (wordWrite k 0).isWord = true ∧ (wordWrite k 0).word = k := by decide
  exact ⟨(all k).1, (all k).2, rfl, rfl⟩

/-- A window cycle that is no word access ends in a bus error (R43). -/
theorem State.windowCycle_error (s : State) (n : AgentId) {c : WindowCycle} (h : c.isWord = false) :
    s.windowCycle n c = s.setPort n
      { s.port n with windowAnswer := some (.busError (if c.write = true then none else some 0)) } := by
  unfold State.windowCycle
  cases w : c.write <;> simp [h, State.answerWindow, busErrorFor]

/-- A write to a word is acknowledged (R43). -/
theorem State.windowCycle_write (s : State) (n : AgentId) {c : WindowCycle} (h : c.isWord = true)
    (w : c.write = true) :
    s.windowCycle n c = (s.windowStore n c.word c.data).answerWindow n .acknowledge := by
  simp [State.windowCycle, h, w]

/-- A read returns the word (R43). -/
theorem State.windowCycle_read (s : State) (n : AgentId) {c : WindowCycle} (h : c.isWord = true)
    (w : c.write = false) :
    s.windowCycle n c = s.setPort n { s.port n with windowAnswer := some (.word (s.windowRead n c.word)) } := by
  simp [State.windowCycle, h, w, State.answerWindow]

/-- A write to PARAMi (R44). -/
theorem State.windowStore_param (s : State) (n : AgentId) (k : Fin 16) (h : k.val < 8) (v : Word) :
    s.windowStore n k v = s.setPort n ((s.port n).writeParam ⟨k.val, h⟩ v) := by
  simp only [State.windowStore, h, dif_pos]

/-- A write to COMMAND (R46). -/
theorem State.windowStore_command (s : State) (n : AgentId) (v : Word) :
    s.windowStore n 8 v = s.setPort n ((s.port n).writeCommand v) := rfl

/-- A write to INTSTAT (R170). -/
theorem State.windowStore_intstat (s : State) (n : AgentId) (v : Word) :
    s.windowStore n 13 v = s.clearCauses n v := rfl

/-- A write to INTEN (R169). -/
theorem State.windowStore_inten (s : State) (n : AgentId) (v : Word) :
    s.windowStore n 14 v = s.writeEnable n v := rfl

/-- A write to STATUS, RESULT0 to RESULT2 or IDENT is ignored (R48, R49). -/
theorem State.windowStore_ignored (s : State) (n : AgentId) (k : Fin 16) (v : Word)
    (h : 9 ≤ k.val ∧ k.val ≤ 12 ∨ k.val = 15) : s.windowStore n k v = s := by
  have h8 : ¬k.val < 8 := by omega
  have n8 : k ≠ 8 := fun e => by rw [e] at h; revert h; decide
  have n13 : k ≠ 13 := fun e => by rw [e] at h; revert h; decide
  have n14 : k ≠ 14 := fun e => by rw [e] at h; revert h; decide
  simp only [State.windowStore, h8, n8, n13, n14, dif_neg, not_false_eq_true, if_false]

/-- A cycle held off is taken as the same cycle presented would be (R185). -/
theorem execWindowWrite_heldOff (s : State) {n : AgentId} {c : WindowCycle} (h : (s.port n).heldWindow = some c) :
    execWindowWrite n .heldOff s = execWindowWrite n (.presented c) s := by
  simp only [execWindowWrite, h]

end Sys2Proof.Machine
end

