-- ==== Sys2Proof/Tests/Slice0.lean ====
section
/-! SUPPORT. The tests: ill-formed commands that the check refuses, one step of each command on a small state, and for
each statement with hypotheses a state and operands that meet them. -/

namespace Sys2Proof.Tests

open Sys2Proof Sys2Proof.Machine

set_option Elab.async false

/-! ## Building states -/

/-- The state after one command. -/
def after (c : Instr) (s : State) : State :=
  match exec c s with
  | .next t => t
  | .fault _ => s
  | .refused _ => s

/-- Eight parameter words. -/
def words (a b c d e f g : Word) : Vector Word 8 := #v[a, b, c, d, e, f, g, 0]

/-- Command c of window n in execution. -/
def executing (s : State) (n : AgentId) (c : BitVec 8) (ps : Vector Word 8) : State :=
  (s.setPort n { s.port n with window := .executing }).setJob (some (.command n c ps))

/-- Agent n enabled with room for 8 leases and 64 pages. -/
def enabling (s : State) (n : AgentId) : State :=
  s.setProfile n { s.profile n with enabled := true, leaseQuota := 8, pageQuota := 64 }

/-- A FIXED lease of one page at 001000h. -/
def page : Lease where
  range := { base := 0x1000, order := 12 }
  rights := { r := true, w := true, x := false }
  floor := .any
  share := .exclusive
  life := .timed .fixed { term := 5, warn := 2, remaining := 3, warned := false }
  disposition := .keep
  slot := none

/-- The same, to be scrubbed. -/
def scrubPage : Lease := { page with disposition := .scrub }

/-- Entry 0 with another body, every other entry FREE; agents 1 and 2 enabled. -/
def withEntry (b : EntryBody) : State :=
  (enabling (enabling State.reset 1) 2).setEntry 0 { gen := 7, body := b }

/-- Agent 1 holds the page. -/
def held : State := withEntry (.active 1 page none)

/-- The access of agent 1 to the first word of the page. -/
def word0 : Access :=
  { info := { addr := 0x1000, size := .four, kind := .dataRead, priv := .u }, data := 0 }

/-- The bus cycle of that access. -/
def cycle0 : MemCycle := { addr := 0x1000, be := 0xF, write := false, fetch := false, priv := false, data := 0 }

/-- Agent 1's access in flight. -/
def inFlight (s : State) : State :=
  s.setPort 1 { s.port 1 with marker := some { info := word0.info, discard := false } }

/-- Agent 1's access granted. -/
def granted (s : State) : State :=
  (inFlight s).setMemPort { s.memPort with grant := some (.agent 1 word0), strobe := some 0 }

/-- The page waits in the scrub queue with p chunks done, and chunk p is at its word k. -/
def scrubbing (p k : Nat) : State :=
  let s := withEntry (.retiring (some 1) scrubPage false)
  (s.setScrub { s.scrub with mode := .running, queue := [0], progress := p }).setMemPort
    { s.memPort with grant := some (.chunk { base := 0x1000, number := p } k), strobe := some 0 }

/-- An ACQUIRE of the page by agent 1, with the wait flag or without. -/
def request (wait : Word) : Vector Word 8 := words 0x1000 12 3 0 0x20005 0 wait

/-- The request it makes. -/
def asked : Request where
  range := page.range
  rights := page.rights
  floor := .any
  share := .exclusive
  life := .timed .fixed 5 2
  disposition := .keep
  phase := none

/-- Agent 1 waits for the page in wait entry 0 with a deadline, behind agent 2's lease over it. -/
def waiting (d : Option Nat) : State :=
  ((withEntry (.active 2 page none)).setWait 0 { gen := 1, body := .waiting 1 asked d }).setWaitOrder [0]

/-! ## Ill-formed commands -/

theorem test_parameter_write_as_window_write_refused :
    (Instr.windowWrite 0 (.presented { addr := 0x1C, be := 0xF, write := true, bothSelects := false, data := 0 })).wellFormed
      = false := by decide

theorem test_status_write_as_window_write_accepted :
    (Instr.windowWrite 0 (.presented { addr := 0x24, be := 0xF, write := true, bothSelects := false, data := 0 })).wellFormed
      = true := by decide

theorem test_reset_release_naming_a_port_twice_refused : (Instr.resetRelease [2, 2]).wellFormed = false := by decide

theorem test_reset_release_naming_two_ports_accepted : (Instr.resetRelease [2, 3]).wellFormed = true := by decide

/-! ## One step of each command -/

theorem test_access_permitted :
    ((after (.accessDecode 1 (.presented cycle0)) held).port 1).marker
      = some { info := word0.info, discard := false } := by decide +kernel

theorem test_access_without_lease_refused :
    (((after (.accessDecode 2 (.presented cycle0)) held).port 2).reports.map (·.reason)) = [.noLease] := by
  decide +kernel

theorem test_fault_report_sets_fault :
    ((after (.faultReport 1) (held.setPort 1
      { held.port 1 with reports := [{ info := word0.info, reason := .rights }] })).profile 1).status = 0x080 := by
  decide +kernel

theorem test_memory_grant_from_port_after_pointer :
    (after .memoryGrant (held.setMemPort
      { held.memPort with requests := held.memPort.requests.set 1 (some word0), due := .endOfGrant })).memPort.grant
      = some (.agent 1 word0) := by decide +kernel

theorem test_mack_clears_marker : ((after .mack (granted held)).port 1).marker = none := by decide +kernel

theorem test_merr_answers_bus_error :
    ((after (.merr true) (granted held)).port 1).memAnswer = some (.busError (some 0)) := by decide +kernel

theorem test_timeout_fails_the_chunk :
    (after .acknowledgeTimeout (scrubbing 3 9)).entry 0 = { gen := 7, body := .faulted scrubPage } := by decide +kernel

theorem test_last_word_of_last_chunk_frees_the_head :
    (after .mack (scrubbing 15 63)).entry 0 = { gen := 7, body := .free } := by decide +kernel

theorem test_take_of_pending_window :
    (after .lmTake (held.setPort 3 { held.port 3 with window := .pending, code := 4 })).manager.job
      = some (.command 3 4 (Vector.replicate 8 0)) := by decide +kernel

theorem test_pass_of_empty_order_ends_at_its_take :
    (after .lmTake (held.setReexamine true)).manager = { held.manager with job := none } := by decide +kernel

theorem test_pass_step_leaves_a_conflicting_request :
    (after .passStep ((waiting none).setJob (some (.pass [0])))).wait 0 = (waiting none).wait 0 := by decide +kernel

theorem test_pass_step_grants :
    ((after .passStep (((waiting none).setEntry 0 { gen := 7, body := .free }).setJob (some (.pass [0])))).wait 0).body
      = .resolved 1 asked (.granted { entry := 0, gen := 8 }) := by decide +kernel

theorem test_teardown_retires :
    (after .teardown (held.setJob (some (.teardown 1)))).entry 0 = { gen := 7, body := .free } := by decide +kernel

theorem test_acquire_grants_entry_one :
    ((after .acquire (executing held 1 0x01 (words 0x2000 12 3 0 0x20005 0 0))).port 1).result0 = 0x0101 := by
  decide +kernel

theorem test_acquire_over_another_agents_page_queues :
    ((after .acquire (executing held 2 0x01 (request 0x80000000))).port 2).status = 0x0102 := by decide +kernel

theorem test_renew_with_new_term :
    (((after .renew (executing held 1 0x02 (words 0x0700 1 0 0 0x10009 0 0))).entry 0).body.lease?.map (·.life))
      = some (.timed .fixed { term := 9, warn := 1, remaining := 9, warned := false }) := by decide +kernel

theorem test_narrow_of_rights :
    (((after .narrow (executing held 1 0x03 (words 0x0700 12 1 0 0 0 0))).entry 0).body.lease?.map (·.rights))
      = some { r := true, w := false, x := false } := by decide +kernel

theorem test_release_in_flight_drains :
    (after .release (executing (inFlight held) 1 0x04 (words 0x0700 0 0 0 0 0 0))).entry 0
      = { gen := 7, body := .retiring (some 1) page true } := by decide +kernel

theorem test_query_result0 :
    ((after .query (executing held 1 0x05 (words 0x0700 0 0 0 0 0 0))).port 1).result0 = 0x4C001107 := by
  decide +kernel

theorem test_find_from_zero :
    ((after .find (executing held 1 0x06 (words 0 1 0 0 0 0 0))).port 1).result0 = 0x0700 := by decide +kernel

theorem test_find_none : ((after .find (executing held 1 0x06 (words 1 1 0 0 0 0 0))).port 1).result0 = 0x80000000 := by
  decide +kernel

theorem test_collect_of_waiting_still_waiting :
    ((after .collect (executing (waiting none) 1 0x07 (words 0x10 0 0 0 0 0 0))).port 1).status = 0x0710 := by
  decide +kernel

theorem test_cancel_frees_the_wait_entry :
    ((after .cancel (executing (waiting none) 1 0x08 (words 0x10 0 0 0 0 0 0))).wait 0).body = .free := by decide +kernel

theorem test_offer_sets_offer_in :
    ((after .offer (executing held 1 0x09 (words 0x0700 2 0 0 0 0 0))).profile 2).status = 0x020 := by decide +kernel

theorem test_accept_changes_owner :
    ((after .accept (executing (withEntry (.active 1 page (some 2))) 2 0x0A (words 0x0700 0 0 0 0 0 0))).entry 0).body.owner?
      = some 2 := by decide +kernel

theorem test_decline_sets_offer_out :
    ((after .decline (executing (withEntry (.active 1 page (some 2))) 2 0x0B (words 0x0700 0 0 0 0 0 0))).profile 1).status
      = 0x040 := by decide +kernel

theorem test_fault_of_empty_latch : ((after .fault (executing held 1 0x0C (words 0 0 0 0 0 0 0))).port 1).result0 = 0 := by
  decide +kernel

theorem test_profile_of_agent_zero_at_reset :
    ((after .profile (executing State.reset 0 0x0D (words 0 0 0 0 0 0 0))).port 0).result0 = 0x10004001 := by
  decide +kernel

theorem test_revoke_sets_revoked :
    ((after .revoke (executing held 0 0x20 (words 0x0700 0 0 0 0 0 0))).profile 1).status = 0x010 := by decide +kernel

theorem test_detach_lists_a_teardown :
    (after .detach (executing held 0 0x21 (words 4 0 0 0 0 0 0))).manager.list = [4] := by decide +kernel

theorem test_set_profile_below_holdings :
    ((after .setProfile (executing held 0 0x22 (words 1 0x400001 0 0 0 0 0))).port 0).status = 0x220B := by
  decide +kernel

theorem test_lock_profile : ((after .lockProfile (executing held 0 0x23 (words 5 0 0 0 0 0 0))).profile 5).locked = true := by
  decide +kernel

theorem test_set_guard_over_a_lease_conflicts :
    ((after .setGuard (executing held 0 0x24 (words 1 0 16 1 0 0 0))).port 0).status = 0x240D := by decide +kernel

theorem test_set_timebase :
    (after .setTimebase (executing held 0 0x25 (words 0x00090001 0 0 0 0 0 0))).timebase
      = { p := 1, d := 9, running := true, count := 0 } := by decide +kernel

theorem test_timebase_stop :
    (after .timebaseStop (executing held 0 0x26 (words 0 0 0 0 0 0 0))).timebase.running = false := by decide +kernel

theorem test_timebase_start_of_a_running_one :
    (after .timebaseStart (executing held 0 0x27 (words 0 0 0 0 0 0 0))).timebase = held.timebase := by decide +kernel

theorem test_set_phases_opens_at_once :
    (after .setPhases (executing held 0 0x28 (words 0 4 6 0 0 0 0))).leases.inForce = some 1 := by decide +kernel

theorem test_scrub_hold_of_idle :
    (after .scrubHold (executing held 0 0x29 (words 0 0 0 0 0 0 0))).scrub.mode = .suspended := by decide +kernel

theorem test_scrub_go_of_idle :
    ((after .scrubGo (executing held 0 0x2A (words 0 0 0 0 0 0 0))).port 0).status = 0x2A12 := by decide +kernel

theorem test_retry_starts_the_engine :
    (after .retry (executing (withEntry (.faulted scrubPage)) 0 0x2B (words 0x0700 0 0 0 0 0 0))).memPort.chunk
      = some { base := 0x1000, number := 0 } := by decide +kernel

theorem test_forget_frees :
    ((after .forget (executing (withEntry (.faulted scrubPage)) 0 0x2C (words 0x0700 0 0 0 0 0 0))).entry 0).body = .free := by
  decide +kernel

theorem test_unknown_code_is_bad_cmd :
    ((after .badCmd (executing held 0 0x0E (words 0 0 0 0 0 0 0))).port 0).status = 0x0E03 := by decide +kernel

theorem test_param_write_of_pending_window_overruns :
    ((after (.paramWrite 2 7 1) (held.setPort 2 { held.port 2 with window := .pending })).port 2).overrun = true := by
  decide +kernel

theorem test_command_write_starts : ((after (.commandWrite 2 0x104) held).port 2).code = 4 := by decide +kernel

theorem test_inten_write_asserts_irq :
    (after (.intenWrite 1 0x1FF) (held.raise .grant 1)).irqAsserted 1 = true := by decide +kernel

theorem test_intstat_write_clears :
    ((after (.intstatWrite 1 0x002) (held.raise .grant 1)).profile 1).status = 0 := by decide +kernel

theorem test_window_read_of_ident :
    ((after (.windowWrite 3 (.presented { addr := 0x3C, be := 0xF, write := false, bothSelects := false, data := 0 })) held).port
      3).windowAnswer = some (.word 0x06400003) := by decide +kernel

theorem test_window_cycle_of_two_bytes_is_a_bus_error :
    ((after (.windowWrite 3 (.presented { addr := 0x3C, be := 0x3, write := false, bothSelects := false, data := 0 })) held).port
      3).windowAnswer = some (.busError (some 0)) := by decide +kernel

theorem test_tick_produced : (after (.tick .produced) held).phases.ticksDue = 1 := by decide +kernel

theorem test_tick_counts_down_to_warn :
    ((after (.tick .leaseTable) (after (.tick .produced) held)).profile 1).status = 0x004 := by decide +kernel

/-- The page with one tick left. -/
def lastTick : Lease := { page with life := .timed .fixed { term := 5, warn := 2, remaining := 1, warned := true } }

/-- Agent 1 holds it, and a tick is due. -/
def expiring : State := after (.tick .produced) (withEntry (.active 1 lastTick none))

theorem test_expiry_sets_lapse : ((after .expiry expiring).profile 1).status = 0x008 := by decide +kernel

theorem test_wait_timeout :
    ((after .waitTimeout (after (.tick .produced) (waiting (some 1)))).wait 0).body = .resolved 1 asked .timedOut := by
  decide +kernel

/-- Phase 1 current with its last tick left, and a tick due; lengths 0, 4, 6, 0. -/
def phaseOne : State :=
  after (.tick .produced) (held.setPhases
    { held.phases with current := some 1, ticksLeft := 1, active := #v[0, 4, 6, 0] })

theorem test_phase_advance : (after .phaseAdvance phaseOne).phases.current = some 2 := by decide +kernel

theorem test_opening :
    (after .opening (after .phaseAdvance phaseOne)).leases.inForce = some 2 := by decide +kernel

theorem test_none_claim :
    (after .noneClaim ((after .opening (after .phaseAdvance phaseOne)).setSequencerClaims [.none])).leases.inForce
      = none := by decide +kernel

theorem test_agrst_assert_cuts_off_the_access :
    ((after (.agrstAssert 1) (inFlight held)).port 1).marker = some { info := word0.info, discard := true } := by
  decide +kernel

theorem test_agrst_release_after_the_teardown :
    ((after (.agrstRelease 1) (held.setPort 1 { held.port 1 with window := .detaching, agrst := true })).port 1).window
      = .idle := by decide +kernel

theorem test_reset_assert_keeps_the_forwarded_cycle :
    ((after .resetAssert (granted held)).port 1).held = some { cycle0 with be := 0xF } := by decide +kernel

theorem test_reset_release_takes_an_asserted_line :
    (after (.resetRelease [4, 2]) (after (.agrstAssert 2) (after (.agrstAssert 4)
      (after .resetAssert held)))).manager.list = [4, 2] := by decide +kernel

/-! ## Witnesses: what the hypotheses of the statements mean on these states -/

/-- A command in execution that R53 admits. -/
theorem runs_of {s : State} {n : AgentId} {c : Command} {ps : Vector Word 8}
    (job : s.manager.job = some (.command n c.code ps)) (window : (s.port n).window = .executing)
    (admitted : (c.supervisor → n = 0) ∧ ((s.profile n).enabled = true ∨ c.openToDisabled = true)) : s.Runs n c ps :=
  ⟨⟨job, window⟩, admitted⟩

/-- Where every entry but 0 is FREE, two different entries are not both held. -/
theorem one_of_two_free {s : State} (h : ∀ i, i ≠ 0 → (s.entry i).body = .free) {i j : EntryId} (ne : i ≠ j) :
    (s.entry i).body = .free ∨ (s.entry j).body = .free := by
  by_cases hi : i = 0
  · exact .inr (h j fun hj => ne (hi.trans hj.symm))
  · exact .inl (h i hi)

theorem selfOverlapLaw_of {s : State} (h : ∀ i, i ≠ 0 → (s.entry i).body = .free) : s.SelfOverlapLaw := by
  intro n i j ne l k hl hk
  rcases one_of_two_free h ne with e | e
  · rw [e] at hl; cases hl
  · rw [e] at hk; cases hk

theorem compatibilityLaw_of {s : State} (h : ∀ i, i ≠ 0 → (s.entry i).body = .free) : s.CompatibilityLaw := by
  intro i j ne l k hl hk
  rcases one_of_two_free h ne with e | e
  · rw [e] at hl; cases hl
  · rw [e] at hk; cases hk

/-- A property of the one entry held is one of every entry. -/
theorem lease_of {s : State} (h : ∀ i, i ≠ 0 → (s.entry i).body = .free) {P : Lease → Prop} {k : Lease}
    (e : (s.entry 0).body.lease? = some k) (p : P k) : ∀ i l, (s.entry i).body.lease? = some l → P l := by
  intro i l hl
  by_cases hi : i = 0
  · rw [hi, e] at hl
    exact Option.some.inj hl ▸ p
  · rw [h i hi] at hl; cases hl

theorem page_sound : page.Sound := by
  refine ⟨by decide, by decide, by decide, by decide, by decide⟩

theorem scrubPage_sound : scrubPage.Sound := by
  refine ⟨by decide, by decide, by decide, by decide, by decide⟩

theorem held_only : ∀ i, i ≠ 0 → (held.entry i).body = .free := by decide +kernel

theorem held_noWait : ∀ w, held.wait w = { gen := 0, body := .free } := by decide +kernel

theorem held_fieldLaw : held.FieldLaw := by
  refine ⟨lease_of held_only (k := page) (by decide +kernel) page_sound, fun w => ?_⟩
  rw [held_noWait w]
  trivial

theorem page_countdown (m : Timed) (c : Countdown) (h : page.life = .timed m c) : c.Sound ∧ 1 ≤ c.remaining := by
  cases h
  exact ⟨⟨by decide, by decide, by decide, by decide⟩, by decide⟩

theorem held_countdownLaw : held.CountdownLaw := by
  refine ⟨fun i l m c hl => ?_, fun i o l t m c hl => ?_, fun w n q d h => ?_⟩
  · exact lease_of held_only (P := fun l => l.life = .timed m c → c.Sound) (k := page) (by decide +kernel)
      (fun h => (page_countdown m c h).1) i l hl
  · exact lease_of held_only (P := fun l => l.life = .timed m c → 1 ≤ c.remaining) (k := page) (by decide +kernel)
      (fun h => (page_countdown m c h).2) i l (by rw [hl]; rfl)
  · rw [held_noWait w] at h; cases h

theorem held_ownerLaw : held.OwnerLaw := by
  refine ⟨fun i => ?_, fun w => ?_⟩
  · by_cases hi : i = 0
    · have e : (held.entry 0).body = .active 1 page none := by decide +kernel
      rw [hi, e]
      exact ⟨by decide, by decide⟩
    · rw [held_only i hi]; trivial
  · rw [held_noWait w]; trivial

theorem held_quotaLaw : held.QuotaLaw := by unfold State.QuotaLaw; decide +kernel

theorem held_profileLaw : held.ProfileLaw := ⟨by decide +kernel, by decide +kernel⟩

theorem held_waitLaw : held.WaitLaw := ⟨by decide +kernel, by decide +kernel, by decide +kernel⟩

/-- What does not look at the window or the job is the same of a command in execution. -/
theorem executing_entry (s : State) (n : AgentId) (c : BitVec 8) (ps : Vector Word 8) (i : EntryId) :
    (executing s n c ps).entry i = s.entry i := rfl

/-! ## Witnesses: the step, reset and the lines -/

theorem witness_EmptyQueueIsOneClock :
    (after .resetAssert held).pending = [] ∧ (after .resetAssert held).resetAsserted = true ∧
      held.pending = [] ∧ held.resetAsserted = false ∧ held.timebase.running = true ∧
      held.timebase.count + 1 < (held.timebase.p + 1) * (held.timebase.d + 1) ∧
      (held.setTimebase { held.timebase with count := 7999 }).timebase.count + 1 = (7 + 1) * (999 + 1) ∧
      (granted held).memPort.grant ≠ none ∧ (granted held).memPort.strobe = some 0 ∧
      ((granted held).setMemPort { (granted held).memPort with strobe := some 255 }).memPort.strobe = some 255 ∧
      (after .mack (scrubbing 3 62)).memPort.grant ≠ none ∧ (after .mack (scrubbing 3 62)).memPort.strobe = none := by
  decide +kernel

theorem test_256th_clock_fails_the_word :
    (((granted held).setMemPort { (granted held).memPort with strobe := some 255 }).clock.port 1).memAnswer
      = some (.busError (some 0)) := by decide +kernel

/-- MSTB is deasserted between two words of a chunk, and the next clock asserts it for the next word. -/
theorem test_strobe_between_two_words :
    let s := after .mack (scrubbing 3 62)
    s.memPort.mstb = false ∧ s.clock.memPort.mstb = true ∧ s.clock.memPort.grant = s.memPort.grant := by
  decide +kernel

/-- Between two words of a chunk MACK, MERR and the timeout are ignored; once a clock has begun word 63, MACK ends it.
-/
theorem test_acknowledge_between_two_words :
    let s := after .mack (scrubbing 3 62)
    after .mack s = s ∧ after (.merr false) s = s ∧ after .acknowledgeTimeout s = s ∧
      (after .mack s.clock).scrub.progress = 4 := by decide +kernel

/-- For ResetAssertRestoresEveryBlock: a forwarded access not yet answered leaves its cycle open, a discarded one not.
-/
theorem test_open_cycle_at_reset :
    ((granted held).port 1).held = none ∧ ((granted held).port 1).marker = some ⟨word0.info, false⟩ ∧
      ((after .resetAssert (granted held)).port 1).held = some cycle0 ∧
      ((after .resetAssert (after (.agrstAssert 1) (granted held))).port 1).held = none := by decide +kernel

theorem test_8000th_clock_ticks :
    (held.setTimebase { held.timebase with count := 7999 }).clock.leases.ticksDue = 1 := by decide +kernel

theorem witness_ResetReleaseReadsEachLine :
    let s := after (.agrstAssert 2) (after .resetAssert held)
    s.resetAsserted = true ∧ [(2 : AgentId)].Nodup ∧ s.manager.list = [] ∧
      ∀ n, (s.port n).window = .idle ∧ (s.port n).marker = none := by decide +kernel

theorem witness_ResetLinesOfTheAgents :
    (held.port 1).agrst = false ∧ held.resetAsserted = false ∧ (held.port 1).window ≠ .detaching ∧
      (let s := after (.agrstAssert 1) held
       (s.port 1).agrst = true ∧ (s.port 1).window = .detaching ∧ 1 ∈ s.manager.list) ∧
      (let s := after (.agrstRelease 1) (after (.agrstAssert 1) held)
       (s.port 1).agrst = false ∧ (s.port 1).window = .detaching) ∧
      (let s := (after (.agrstAssert 1) held).setJobList []
       (s.port 1).agrst = true ∧ (s.port 1).window = .detaching ∧ 1 ∉ s.manager.list ∧
         s.manager.job ≠ some (.teardown 1)) := by decide +kernel

/-! ## Witnesses: the windows and the access check -/

theorem witness_ParameterAndCommandWrites :
    held.resetAsserted = false ∧ (held.port 1).window = .idle ∧
      ((after (.commandWrite 1 4) held).port 1).window = .pending ∧
      ((after (.agrstAssert 1) held).port 1).window = .detaching := by decide +kernel

theorem witness_WindowCyclesByOffset :
    (after .resetAssert held).resetAsserted = true ∧ held.resetAsserted = false ∧
      (∀ k : Fin 16, (WindowCycle.word
        { addr := BitVec.ofNat 24 (4 * k.val), be := 0xF, write := false, bothSelects := false, data := 0 }) = k) ∧
      (0x26 : Addr).toNat % 4 ≠ 0 := by decide +kernel

/-- A window cycle under RESET is held off at its port, and taken once RESET is released. -/
theorem test_window_cycle_through_reset :
    let c : WindowCycle := { addr := 0x3C, be := 0xF, write := false, bothSelects := false, data := 0 }
    let s := after (.windowWrite 3 (.presented c)) (after .resetAssert held)
    s.resetAsserted = true ∧ (s.port 3).heldWindow = some c ∧ (s.port 3).windowAnswer = none ∧
      (let t := after (.resetRelease []) s
       t.resetAsserted = false ∧ (t.port 3).heldWindow = some c ∧
         ((after (.windowWrite 3 .heldOff) t).port 3).windowAnswer = some (.word 0x06400003) ∧
         ((after (.windowWrite 3 .heldOff) t).port 3).heldWindow = none) := by decide +kernel

/-- A command written under RESET is accepted once RESET is released. -/
theorem test_command_write_through_reset :
    let s := after (.resetRelease []) (after (.commandWrite 3 0x05) (after .resetAssert held))
    (s.port 3).window = .idle ∧ ((after (.windowWrite 3 .heldOff) s).port 3).window = .pending ∧
      ((after (.windowWrite 3 .heldOff) s).port 3).code = 0x05 := by decide +kernel

theorem witness_DecodeChecksInOrder :
    held.SelfOverlapLaw ∧ word0.info.addr.toNat % word0.info.size.bytes = 0 ∧ (held.profile 1).enabled = true ∧
      (held.profile 5).enabled = false ∧ held.Covers 1 word0.info.addr 0 page ∧
      page.rights.allow word0.info.kind = true ∧ page.rights.allow .fetch = false ∧ page.floor = .any ∧
      (∀ x, page.slot = some x → held.leases.inForce = some x.phase ∧ x.effective = true) ∧
      ∀ i l, ¬held.Covers 2 word0.info.addr i l := by
  refine ⟨selfOverlapLaw_of held_only, by decide, by decide +kernel, by decide +kernel,
    ⟨by decide +kernel, by decide⟩, by decide, by decide, rfl, fun x h => (by cases h), fun i l h => ?_⟩
  have none2 : ∀ i, (held.entry i).body.activeOf 2 = none := by decide +kernel
  rw [State.Covers, none2 i] at h
  cases h.1

/-- The last byte of the page is covered, and the byte after it is not. -/
theorem test_cover_ends_with_the_range :
    page.range.contains 0x1FFF = true ∧ page.range.contains 0x2000 = false ∧ page.range.contains 0x0FFF = false := by
  decide

theorem witness_RefusedOrHeldOffAccess :
    ((inFlight held).port 1).marker ≠ none ∧ (held.port 2).marker = none ∧ held.resetAsserted = false ∧
      ((held.setHeld 2 (some cycle0)).port 2).held = some cycle0 ∧ accessOf { cycle0 with be := 0x5 } = none ∧
      accessOf { cycle0 with be := 0xC, write := true, priv := true, data := 7 } =
        some { info := { addr := 0x1000, size := .two, kind := .dataWrite, priv := .p }, data := 7 } ∧
      (accessOf { cycle0 with be := 0x8, fetch := true }).map (·.info) =
        some { addr := 0x1000, size := .one, kind := .fetch, priv := .u } ∧
      accessOf cycle0 = some word0 ∧ (held.port 2).window ≠ .detaching ∧
      held.refusal 2 word0.info = some .noLease := by decide +kernel

theorem witness_PermittedAccessIsForwarded :
    held.SelfOverlapLaw ∧ (held.port 1).marker = none ∧ held.resetAsserted = false ∧
      accessOf cycle0 = some word0 ∧ (held.port 1).window ≠ .detaching ∧ held.refusal 1 word0.info = none ∧
      held.entry 0 = { gen := 7, body := .active 1 page none } ∧
      page.range.contains word0.info.addr = true :=
  ⟨selfOverlapLaw_of held_only, by decide +kernel, by decide +kernel, by decide, by decide +kernel, by decide +kernel,
    by decide +kernel, by decide⟩

theorem witness_ForwardedOnlyUnderACoveringLease :
    (let s := { held with pending := [.accessDecode 1 (.presented cycle0)] }
     let t := after (.accessDecode 1 (.presented cycle0)) held
     s.FieldLaw ∧ step s = .next t ∧ t.memPort.requests[(1 : AgentId)] = some word0 ∧
       s.memPort.requests[(1 : AgentId)] ≠ some word0) ∧
    (let t := after .memoryGrant (after (.accessDecode 1 (.presented cycle0)) held)
     t.memPort.grant = some (.agent 1 word0) ∧ held.memPort.grant ≠ some (.agent 1 word0)) :=
  ⟨⟨held_fieldLaw, rfl, by decide +kernel, by decide +kernel⟩, by decide +kernel⟩

theorem witness_FaultReportAtLatch :
    let r : FaultReport := { info := word0.info, reason := .memory }
    let s := held.setPort 1 { held.port 1 with reports := [r] }
    (s.port 1).reports = r :: [] ∧ (s.profile 1).latch = none ∧ r.reason = .memory ∧
      ((s.setProfile 1 { s.profile 1 with latch := some { info := word0.info, reason := .rights, further := 0 } }).port
        1).reports = r :: [] := by decide +kernel

/-! ## Witnesses: the Memory Port -/

theorem witness_GrantDecision :
    (granted held).memPort.grant ≠ none ∧ held.memPort.grant = none ∧
      (after .mack (scrubbing 3 62)).memPort.grant ≠ none ∧ (after .mack (scrubbing 3 62)).memPort.strobe = none ∧
      (let m := { held.memPort with
        requests := held.memPort.requests.set 5 (some word0), chunk := some { base := 0x1000, number := 0 }
        credit := 15, due := .endOfGrant }
       m.grant = none ∧ m.pointer = 5 ∧ m.requests[(5 : AgentId)] = some word0 ∧ m.credit < 16 ∧
         (5 : AgentId) = Fin.ofNat 6 (m.pointer.val + 1 + 5) ∧
         ∀ j < 5, m.requests[Fin.ofNat 6 (m.pointer.val + 1 + j)] = none) := by decide +kernel

/-- The arrivals at a free port: an agent's request, and a chunk's. -/
theorem witness_GrantDecision_arrivals :
    (let m := held.memPort.requestAgent 1 word0
     m.grant = none ∧ m.due = .arrival (.agent 1) ∧ m.requests[(1 : AgentId)] = some word0) ∧
      (let m := held.memPort.requestChunk { base := 0x1000, number := 0 }
       m.grant = none ∧ m.due = .arrival .chunk ∧ m.chunk = some { base := 0x1000, number := 0 }) := by decide +kernel

theorem test_credit_of_16_chooses_the_chunk :
    (MemoryPort.decide { held.memPort with
      requests := held.memPort.requests.set 5 (some word0), chunk := some { base := 0x1000, number := 0 }
      credit := 16, due := .endOfGrant }).grant = some (.chunk { base := 0x1000, number := 0 } 0) := by decide +kernel

/-- For AccessEndsWithMack, AccessEndsWithError and CompletionDrainsEveryEntry. -/
theorem witness_AccessEnds :
    (granted held).memPort.grant = some (.agent 1 word0) ∧ (granted held).memPort.strobe ≠ none ∧
      word0.info.addr.toNat % word0.info.size.bytes = 0 ∧
      ((granted held).port 1).marker = some { info := word0.info, discard := false } ∧
      (granted (withEntry (.retiring (some 1) page true))).memPort.grant = some (.agent 1 word0) ∧
      (granted (withEntry (.retiring (some 1) page true))).memPort.strobe ≠ none ∧
      (granted (withEntry (.retiring (some 1) page true))).entry 0
        = { gen := 7, body := .retiring (some 1) page true } := by decide +kernel

/-- A read has all four byte enables, and a write those of its address and size. -/
theorem test_lines_of_an_access :
    word0.lines = { ma := 0x400, mbe := 0xF, mwe := false, md := none } ∧
      ({ word0 with info := { addr := 0x1002, size := .two, kind := .dataWrite, priv := .u } } : Access).lines
        = { ma := 0x400, mbe := 0xC, mwe := true, md := some 0 } := by decide

/-- A write of the upper half of a word leaves its lower half, and the read of one byte answers that byte alone. -/
theorem test_write_and_read_by_lanes :
    let s := held.takeWord { ma := 0x400, mbe := 0xF, mwe := true, md := some 0x44332211 }
    let t := s.takeWord ({ info := { addr := 0x1002, size := .two, kind := .dataWrite, priv := .u }
                           data := 0xBBAA0000 } : Access).lines
    t.sramWord 0x400 = 0xBBAA2211 ∧ t.readBytes { addr := 0x1003, size := .one, kind := .dataRead, priv := .u } = [0xBB]
      := by decide +kernel

/-- For ChunkWordsAndCompletion and ChunkFailureFaultsTheHead: word 62, word 63, the last chunk. -/
theorem witness_ChunkEnds :
    (scrubbing 3 62).memPort.grant = some (.chunk { base := 0x1000, number := 3 } 62) ∧
      (scrubbing 3 62).memPort.strobe ≠ none ∧ (scrubbing 3 63).memPort.strobe ≠ none ∧
      (0x1000 : Addr).toNat % 4 = 0 ∧ (0x1000 : Addr).toNat + 256 * 3 + 4 * 63 < 2 ^ 24 ∧
      (scrubbing 3 63).memPort.grant = some (.chunk { base := 0x1000, number := 3 } 63) ∧
      (scrubbing 3 63).scrub.queue = 0 :: [] ∧
      (scrubbing 3 63).entry 0 = { gen := 7, body := .retiring (some 1) scrubPage false } ∧
      (scrubbing 15 63).scrub.progress + 1 = 2 ^ (scrubPage.range.order - 8) ∧
      (scrubbing 3 63).scrub.mode = .running ∧ (scrubbing 3 63).scrub.holdPending = false := by decide +kernel

/-! ## Witnesses: the Lease Manager -/

theorem witness_TakeInOrderOfPriority :
    held.manager.job = none ∧ (held.setJobList [3]).manager.list = 3 :: [] ∧
      (held.setReexamine true).manager.list = [] ∧ (held.setReexamine true).manager.reexamine = true ∧
      (let s := held.setPort 5 { held.port 5 with window := .pending }
       s.manager.reexamine = false ∧ (s.port 5).window = .pending ∧
         (5 : AgentId) = Fin.ofNat 6 (s.manager.pointer.val + 1 + 5) ∧
         ∀ j < 5, (s.port (Fin.ofNat 6 (s.manager.pointer.val + 1 + j))).window ≠ .pending) := by decide +kernel

theorem unguarded_of {s : State} {n : AgentId} {r : Range} (h : s.guardedFor n r = false) : s.Unguarded n r :=
  Classical.byContradiction fun k => by rw [(s.guardedFor_iff n r).mpr k] at h; cases h

theorem withinQuota_of {s : State} {n : AgentId} {r : Range} (h : s.overQuota n r = false) : s.WithinQuota n r :=
  Classical.byContradiction fun k => by rw [(s.overQuota_iff n r).mpr k] at h; cases h

theorem noSelfOverlap_of {s : State} {n : AgentId} {r : Range} (h : s.selfOverlaps n r = false) :
    s.NoSelfOverlap n r :=
  Classical.byContradiction fun k => by rw [(s.selfOverlaps_iff n r).mpr k] at h; cases h

theorem noConflict_of {s : State} {q : Request} (h : s.conflicts q = false) : s.NoConflict q :=
  Classical.byContradiction fun k => by rw [(s.conflicts_iff q).mpr k] at h; cases h

theorem noneWaits_of {s : State} {n : AgentId} {r : Range} (h : s.othersWait n r = false) : s.NoneWaits n r :=
  Classical.byContradiction fun k => by rw [(s.othersWait_iff n r).mpr k] at h; cases h

/-- The waiting request with its agent disabled. -/
def disabled : State :=
  (waiting none).setProfile 1 { (waiting none).profile 1 with enabled := false }

/-- The waiting request with its page under a guard span. -/
def spanned : State :=
  (waiting none).setGuard 3 { enabled := true, range := { base := 0, order := 16 }, locked := false }

/-- The pass over wait entry 0, whose request is left WAITING while agent 2 holds the page, granted once entry 0 is
FREE, DENIED to a disabled agent, and GUARDED under a guard span. -/
theorem witness_PassStepExaminesOneEntry :
    (let s := (waiting none).setJob (some (.pass ([] ++ 0 :: [])))
     s.manager.job = some (.pass ([] ++ 0 :: [])) ∧ 0 ∈ s.waits.order ∧
       s.wait 0 = { gen := 1, body := .waiting 1 asked none } ∧ (s.profile 1).enabled = true ∧
       s.Unguarded 1 asked.range ∧ ¬s.NoConflict asked) ∧
    (let s := ((waiting none).setEntry 0 { gen := 7, body := .free }).setJob (some (.pass [0]))
     s.NoConflict asked ∧ s.WithinQuota 1 asked.range ∧ s.NoSelfOverlap 1 asked.range ∧ s.LowestFree 0) ∧
    (let s := disabled.setJob (some (.pass [0]))
     s.wait 0 = { gen := 1, body := .waiting 1 asked none } ∧ (s.profile 1).enabled = false ∧
       (after .passStep s).wait 0 = { gen := 1, body := .resolved 1 asked .denied }) ∧
    (let s := spanned.setJob (some (.pass [0]))
     s.wait 0 = { gen := 1, body := .waiting 1 asked none } ∧ (s.profile 1).enabled = true ∧
       ¬s.Unguarded 1 asked.range ∧ (after .passStep s).wait 0 = { gen := 1, body := .resolved 1 asked .guarded }) := by
  refine ⟨⟨by decide +kernel, by decide +kernel, by decide +kernel, by decide +kernel,
    unguarded_of (by decide +kernel), (State.conflicts_iff _ _).mp (by decide +kernel)⟩,
    ⟨noConflict_of (by decide +kernel), withinQuota_of (by decide +kernel), noSelfOverlap_of (by decide +kernel),
      by decide +kernel, by decide +kernel⟩, by decide +kernel, by decide +kernel, by decide +kernel,
    (State.guardedFor_iff _ _ _).mp (by decide +kernel), by decide +kernel⟩

/-- For TeardownOfTheLeases and TeardownOfTheRest. -/
theorem witness_Teardown :
    (held.setJob (some (.teardown 1))).manager.job = some (.teardown 1) ∧
      (held.setJob (some (.teardown 1))).entry 0 = { gen := 7, body := .active 1 page none } ∧
      ((waiting none).wait 0).body.requester? = some 1 := by decide +kernel

/-! ## Witnesses: commands -/

theorem witness_AdmissionOfEveryCommand :
    (∀ c : Command, c ∈ allCommands → c.code ≠ 0x0E) ∧
      (executing held 0 0x0E (words 0 0 0 0 0 0 0)).manager.job
        = some (.command 0 0x0E (words 0 0 0 0 0 0 0)) ∧
      (executing held 1 0x20 (words 0 0 0 0 0 0 0)).Executes 1 .revoke (words 0 0 0 0 0 0 0) ∧
      (executing held 5 0x02 (words 0 0 0 0 0 0 0)).Executes 5 .renew (words 0 0 0 0 0 0 0) ∧
      ((executing held 5 0x02 (words 0 0 0 0 0 0 0)).profile 5).enabled = false :=
  ⟨by decide, by decide +kernel, ⟨by decide +kernel, by decide +kernel⟩, ⟨by decide +kernel, by decide +kernel⟩,
    by decide +kernel⟩

theorem witness_DetachedResponseIsDiscarded :
    let s := executing held 1 0x04 (words 0x0700 0 0 0 0 0 0)
    s.Executes 1 .release (words 0x0700 0 0 0 0 0 0) ∧ exec .release s = .next (after .release s) ∧
      (let t := after (.agrstAssert 1) (executing held 1 0x0E (words 0 0 0 0 0 0 0))
       t.manager.job = some (.command 1 0x0E (words 0 0 0 0 0 0 0)) ∧ (t.port 1).window = .detaching) :=
  ⟨⟨by decide +kernel, by decide +kernel⟩, rfl, by decide +kernel⟩

/-- For RenewAndNarrow, ReleaseAndRevokeRetireTheEntry, OfferAndDecline and HandleChecks. -/
theorem witness_OwnersCommands :
    (0 : EntryId).val = field 0x0700 0 6 ∧ (7 : BitVec 8).toNat = field 0x0700 8 8 ∧ held.entry 0 = { gen := 7, body := .active 1 page none } ∧
      (∀ c ∈ [Command.renew, .narrow, .release, .offer],
        (executing held 1 c.code (words 0x0700 12 1 0 0x10009 0 0)).Runs 1 c
          (words 0x0700 12 1 0 0x10009 0 0)) ∧
      (executing held 0 0x20 (words 0x0700 0 0 0 0 0 0)).Runs 0 .revoke (words 0x0700 0 0 0 0 0 0) ∧
      (6 : BitVec 8).toNat = field 0x0600 8 8 := by
  refine ⟨by decide, by decide, by decide +kernel, fun c hc => ?_,
    runs_of (by decide +kernel) (by decide +kernel) (by decide +kernel), by decide⟩
  have all : ∀ c ∈ [Command.renew, .narrow, .release, .offer],
      (executing held 1 c.code (words 0x0700 12 1 0 0x10009 0 0)).manager.job
        = some (.command 1 c.code (words 0x0700 12 1 0 0x10009 0 0)) ∧
      ((executing held 1 c.code (words 0x0700 12 1 0 0x10009 0 0)).port 1).window = .executing ∧
      (c.supervisor → (1 : AgentId) = 0) ∧
      (((executing held 1 c.code (words 0x0700 12 1 0 0x10009 0 0)).profile 1).enabled = true ∨
        c.openToDisabled = true) := by decide +kernel
  exact runs_of (all c hc).1 (all c hc).2.1 (all c hc).2.2

/-- For AcceptPassesTheLeaseOn, and the DECLINE of OfferAndDecline. -/
theorem witness_AcceptPassesTheLeaseOn :
    let ps := words 0x0700 0 0 0 0 0 0
    let s := executing (withEntry (.active 1 page (some 2))) 2 0x0A ps
    s.Runs 2 .accept ps ∧ s.entry 0 = { gen := 7, body := .active 1 page (some 2) } ∧ s.Unguarded 2 page.range ∧
      s.WithinQuota 2 page.range ∧ s.NoSelfOverlap 2 page.range ∧
      (executing (withEntry (.active 1 page (some 2))) 2 0x0B ps).Runs 2 .decline ps :=
  ⟨runs_of (by decide +kernel) (by decide +kernel) (by decide +kernel), by decide +kernel,
    unguarded_of (by decide +kernel), withinQuota_of (by decide +kernel), noSelfOverlap_of (by decide +kernel),
    runs_of (by decide +kernel) (by decide +kernel) (by decide +kernel)⟩

/-- For the three statements on ACQUIRE: the page asked for by agent 1 with the table empty, and by agent 2 beside
agent 1's lease. -/
theorem witness_Acquire :
    asked.ReadFrom (request 0) ∧ asked.valid = true ∧ field 0x300 8 2 = 3 ∧ field 0x13 0 2 = 3 ∧
      (let s := executing (withEntry .free) 1 0x01 (request 0)
       s.Executes 1 .acquire (request 0) ∧ (s.profile 1).enabled = true ∧ s.Unguarded 1 asked.range ∧
         s.WithinQuota 1 asked.range ∧ s.NoSelfOverlap 1 asked.range ∧ s.NoConflict asked ∧
         s.NoneWaits 1 asked.range ∧ s.LowestFree 0) ∧
      (let s := executing held 2 0x01 (request 0x80000003)
       s.Executes 2 .acquire (request 0x80000003) ∧ asked.ReadFrom (request 0x80000003) ∧
         s.Unguarded 2 asked.range ∧ s.WithinQuota 2 asked.range ∧ s.NoSelfOverlap 2 asked.range ∧
         ¬s.NoConflict asked ∧ bit (request 0x80000003)[6] 31 = true ∧ s.LowestFreeWait 0 ∧ s.waitsHeld 2 < 4) := by
  refine ⟨Request.readFrom_iff.mpr (by decide +kernel), by decide, by decide, by decide,
    ⟨⟨by decide +kernel, by decide +kernel⟩, by decide +kernel, unguarded_of (by decide +kernel),
      withinQuota_of (by decide +kernel), noSelfOverlap_of (by decide +kernel), noConflict_of (by decide +kernel),
      noneWaits_of (by decide +kernel), by decide +kernel, by decide +kernel⟩,
    ⟨by decide +kernel, by decide +kernel⟩, Request.readFrom_iff.mpr (by decide +kernel),
    unguarded_of (by decide +kernel), withinQuota_of (by decide +kernel), noSelfOverlap_of (by decide +kernel),
    (State.conflicts_iff _ _).mp (by decide +kernel), by decide +kernel, ⟨by decide +kernel, by decide +kernel⟩,
    by decide +kernel⟩

theorem witness_RetryAndForgetAndTheJoin :
    let ps := words 0x0700 0 0 0 0 0 0
    (∀ c ∈ [Command.retry, .forget],
      ((executing (withEntry (.faulted scrubPage)) 0 c.code ps).manager.job = some (.command 0 c.code ps) ∧
        ((executing (withEntry (.faulted scrubPage)) 0 c.code ps).port 0).window = .executing ∧
        ((executing (withEntry (.faulted scrubPage)) 0 c.code ps).profile 0).enabled = true)) ∧
      (withEntry (.faulted scrubPage)).entry 0 = { gen := 7, body := .faulted scrubPage } ∧
      held.scrub.mode = .idle ∧ held.scrub.queue = [] ∧ (scrubbing 3 0).scrub.mode ≠ .idle := by decide +kernel

theorem witness_QueryReportsTheEntry :
    let ps := words 0x0700 0 0 0 0 0 0
    (executing held 1 0x05 ps).Runs 1 .query ps ∧ held.FieldLaw ∧ held.CountdownLaw ∧
      (held.entry 0).body.lease? = some page ∧ (held.entry 0).body.owner? = some 1 ∧
      held.scrub.progress ≤ 65536 :=
  ⟨runs_of (by decide +kernel) (by decide +kernel) (by decide +kernel), held_fieldLaw, held_countdownLaw,
    by decide +kernel, by decide +kernel, by decide +kernel⟩

theorem witness_FindWalksTheTable :
    let ps := words 63 0x80 0 0 0 0 0
    (executing held 0 0x06 ps).Runs 0 .find ps ∧ (63 : EntryId).val = field ps[0] 0 6 ∧ bit ps[1] 7 = true ∧
      ((executing held 0 0x06 ps).entry 63).body = .free :=
  ⟨runs_of (by decide +kernel) (by decide +kernel) (by decide +kernel), by decide, by decide, by decide +kernel⟩

theorem witness_ProfileAndFaultReport :
    let ps := words 1 0 0 0 0 0 0
    (executing held 1 0x0D ps).Runs 1 .profile ps ∧ held.ProfileLaw ∧ held.QuotaLaw ∧ held.WaitLaw ∧
      (executing held 5 0x0C ps).Runs 5 .fault ps ∧ (held.profile 5).latch = none :=
  ⟨runs_of (by decide +kernel) (by decide +kernel) (by decide +kernel), held_profileLaw, held_quotaLaw, held_waitLaw,
    runs_of (by decide +kernel) (by decide +kernel) (by decide +kernel), by decide +kernel⟩

theorem witness_CollectAndCancel :
    let ps := words 0x10 0 0 0 0 0 0
    (executing (waiting none) 1 0x08 ps).Runs 1 .cancel ps ∧ (0 : WaitId).val = field ps[0] 0 4 ∧
      (1 : BitVec 4).toNat = field ps[0] 4 4 ∧ (waiting none).wait 0 = { gen := 1, body := .waiting 1 asked none } ∧
      (let s := (waiting none).resolveWait 0 .guarded
       s.wait 0 = { gen := 1, body := .resolved 1 asked .guarded } ∧ 0 ∉ s.waits.order) ∧
      (executing (waiting none) 1 0x07 ps).Runs 1 .collect ps :=
  ⟨runs_of (by decide +kernel) (by decide +kernel) (by decide +kernel), by decide, by decide, by decide +kernel,
    by decide +kernel, runs_of (by decide +kernel) (by decide +kernel) (by decide +kernel)⟩

/-- For every policy command of agent 0, with parameters of its choice. -/
theorem policy_runs (c : Command) (_ : c.supervisor = true) (ps : Vector Word 8) :
    (executing held 0 c.code ps).Runs 0 c ps :=
  runs_of rfl (by
    show ((held.setPort 0 { held.port 0 with window := .executing }).port 0).window = .executing
    simp) ⟨fun _ => rfl, .inl (by
      show ((held.setPort 0 { held.port 0 with window := .executing }).profile 0).enabled = true
      decide +kernel)⟩

theorem witness_DetachIsADetachEvent :
    (5 : AgentId).val = field 5 0 3 ∧ (held.port 5).window ≠ .detaching ∧ 6 ≤ field 6 0 3 ∧
      ((after (.agrstAssert 5) held).port 5).window = .detaching := by decide +kernel

theorem witness_SetProfileAndLockProfile :
    (1 : AgentId).val = field 1 0 3 ∧ (held.profile 1).locked = false ∧ held.leasesHeld 1 = field 0x00010101 8 7 ∧
      held.pagesHeld 1 = field 0x00010101 16 13 ∧ bit 0x00010101 0 = true ∧ 64 < field 0x00014101 8 7 := by
  decide +kernel

theorem witness_SetGuardWritesASpan :
    (3 : GuardId).val = field 3 0 2 ∧ (held.guard 3).locked = false ∧
      (∃ i o l, (held.entry i).body.owner? = some o ∧ o ≠ 0 ∧ (held.entry i).body.lease? = some l ∧
        l.range.overlaps { base := 0, order := 16 } = true) ∧
      ((0x2000 : Addr).toNat % 2 ^ 12 = 0 ∧ page.range.overlaps { base := 0x2000, order := 12 } = false) :=
  ⟨by decide, by decide +kernel, ⟨0, 1, page, by decide +kernel, by decide, by decide +kernel, by decide⟩, by decide⟩

theorem witness_ScrubHoldAndScrubGo :
    held.scrub.mode = .idle ∧ (scrubbing 0 0).scrub.mode = .running ∧ (scrubbing 0 0).scrub.holdPending = false ∧
      4 ≤ (scrubbing 0 0).scrub.sinceGo ∧
      (let s := (scrubbing 0 0).setScrub { (scrubbing 0 0).scrub with mode := .suspended, sinceGo := 3 }
       s.scrub.mode = .suspended ∧ s.scrub.queue = 0 :: [] ∧ (s.entry 0).body.lease? = some scrubPage ∧
         s.scrub.sinceGo < 4) := by decide +kernel

theorem witness_SetPhasesPendingOrAtOnce :
    held.phases.current = none ∧ held.timebase.running = true ∧ phaseOne.phases.current ≠ none ∧
      (#v[field 0 0 12, field 4 0 12, field 0xFFFFF 0 12, field 0 0 12] : Vector Nat 4) = #v[0, 4, 4095, 0] := by
  decide +kernel

/-! ## Witnesses: time and the laws -/

theorem witness_TickProductionAndSequencerClaims :
    held.timebase.running = true ∧ held.resetAsserted = false ∧
      (held.setSequencerClaims [.none]).leases.sequencerClaims = .none :: [] ∧
      (held.setSequencerClaims [.opening 3]).leases.sequencerClaims = .opening 3 :: [] := by decide +kernel

theorem witness_TickCountsLeasesDown :
    expiring.leases.ticksDue = 0 + 1 ∧
      expiring.entry 0 = { gen := 7, body := .active 1 lastTick none } ∧ lastTick.disposition = .keep ∧
      expiring.inFlight 1 lastTick.range = false ∧
      (after (.tick .produced) held).leases.ticksDue = 0 + 1 ∧
      (after (.tick .produced) held).entry 0 = { gen := 7, body := .active 1 page none } := by decide +kernel

theorem witness_TickCountsDeadlinesDown :
    (after (.tick .produced) (waiting (some 1))).waits.ticksDue = 0 + 1 ∧
      (after (.tick .produced) (waiting (some 1))).wait 0 = { gen := 1, body := .waiting 1 asked (some 1) } ∧
      (after (.tick .produced) (waiting (some 2))).wait 0 = { gen := 1, body := .waiting 1 asked (some 2) } := by
  decide +kernel

theorem witness_TickAdvancesTheSequencer :
    phaseOne.phases.ticksDue = 0 + 1 ∧ phaseOne.phases.current = some 1 ∧ phaseOne.phases.ticksLeft = 1 ∧
      phaseOne.phases.active[(2 : Phase)] ≠ 0 ∧
      (let s := after (.tick .produced) (held.setPhases { held.phases with pendingFlag := true })
       s.phases.ticksDue = 0 + 1 ∧ s.phases.current = none ∧ s.phases.pendingFlag = true ∧
         ∀ p : Phase, s.phases.pending[p] = 0) := by decide +kernel

theorem held_guardLaw : held.GuardLaw := fun i g h => by
  have off : ∀ g, (held.guard g).enabled = false := by decide +kernel
  rw [off g] at h
  cases h

theorem held_scrubQueueLaw : held.ScrubQueueLaw := by
  refine ⟨by decide +kernel, by decide +kernel, fun i => ?_⟩
  by_cases hi : i = 0
  · have e : (held.entry 0).body = .active 1 page none := by decide +kernel
    rw [hi, e]; trivial
  · rw [held_only i hi]; trivial

theorem held_engineLaw : held.EngineLaw :=
  ⟨by decide +kernel, by decide +kernel, ⟨rfl, rfl⟩, trivial⟩

/-- For the statements on what every step keeps: the laws hold of `held`, where no command waits, so that a step is one
clock. -/
theorem witness_LawsAreKept :
    held.CompatibilityLaw ∧ held.QuotaLaw ∧ held.SelfOverlapLaw ∧ held.GuardLaw ∧ held.FieldLaw ∧
      held.CountdownLaw ∧ held.OwnerLaw ∧ held.ScrubQueueLaw ∧ held.EngineLaw ∧ held.WaitLaw ∧
      held.ProfileLaw ∧ step held = .next held.clock :=
  ⟨compatibilityLaw_of held_only, held_quotaLaw, selfOverlapLaw_of held_only, held_guardLaw, held_fieldLaw,
    held_countdownLaw, held_ownerLaw, held_scrubQueueLaw, held_engineLaw, held_waitLaw, held_profileLaw, rfl⟩

theorem witness_OtherLawsAreKept :
    held.ManagerLaw ∧ held.MarkerLaw ∧ held.DrainLaw ∧ held.MemoryPortLaw ∧ held.MemoryLaw ∧ held.SequencerLaw ∧
      held.TimebaseLaw ∧ held.CauseLaw := by
  have idle : ∀ n, (held.port n).window = .idle ∧ (held.port n).agrst = false ∧ (held.port n).marker = none := by
    decide +kernel
  refine ⟨⟨by decide +kernel, fun n h => (by cases h), fun n h => (by cases h), fun n c ps h => (by cases h),
    fun n h => ?_, fun n h => ?_, fun n h => ?_⟩, fun n => ⟨?_, fun m h => ?_⟩, fun i => ?_,
    ⟨by decide +kernel, by decide +kernel, trivial, fun k h => (by cases h), fun _ => rfl, fun n a h => (by cases h),
      by decide +kernel⟩, rfl,
    ⟨⟨rfl, by decide +kernel⟩, by decide +kernel, by decide +kernel⟩, ⟨by decide, by decide, by decide⟩,
    ⟨by decide +kernel, by decide +kernel, by decide +kernel⟩⟩
  · rw [(idle n).1] at h; cases h
  · rw [(idle n).1] at h; cases h
  · rw [(idle n).2.1] at h; cases h
  · revert n; decide +kernel
  · rw [(idle n).2.2] at h; cases h
  · by_cases hi : i = 0
    · have e : (held.entry 0).body = .active 1 page none := by decide +kernel
      rw [hi, e]; trivial
    · rw [held_only i hi]; trivial

end Sys2Proof.Tests
end

section
/-! SUPPORT. R15: what a command can do to the ranges, share modes and phases that the Lease Table holds, and the
compatibility law it keeps. -/

namespace Sys2Proof.Machine

/-! ## Overlap and compatibility (R10, R13) -/

/-- Two ranges overlap exactly where they have a byte in common (R10). -/
theorem Range.overlaps_iff_byte (a b : Range) :
    a.overlaps b = true ↔ ∃ x : Nat, a.base.toNat ≤ x ∧ x < a.base.toNat + 2 ^ a.order ∧
      b.base.toNat ≤ x ∧ x < b.base.toNat + 2 ^ b.order := by
  have ha := Nat.two_pow_pos a.order
  have hb := Nat.two_pow_pos b.order
  rw [Range.overlaps_iff]
  simp only [Range.first, Range.last]
  constructor
  · intro h
    exact ⟨max a.base.toNat b.base.toNat, by omega, by omega, by omega, by omega⟩
  · rintro ⟨x, hx⟩
    omega

theorem phasesDiffer_iff (p q : Option Phase) :
    phasesDiffer p q = true ↔ ∃ x y, p = some x ∧ q = some y ∧ x ≠ y := by
  cases p <;> cases q <;> simp [phasesDiffer]

theorem sharesAgree_iff (a b : Share) :
    sharesAgree a b = true ↔ a = .sharedRead ∧ b = .sharedRead ∨ a = .shared ∧ b = .shared := by
  cases a <;> cases b <;> simp [sharesAgree]

theorem compatible_iff (r₁ : Range) (s₁ : Share) (p₁ : Option Phase) (r₂ : Range) (s₂ : Share) (p₂ : Option Phase) :
    compatible r₁ s₁ p₁ r₂ s₂ p₂ = true ↔
      r₁.overlaps r₂ = false ∨ phasesDiffer p₁ p₂ = true ∨ sharesAgree s₁ s₂ = true := by
  simp only [compatible, Bool.or_eq_true, Bool.not_eq_true', or_assoc]

/-- Settles O51: the shared byte of two overlapping ranges is the higher of the two bases. -/
theorem compatibilityRule : Obligations.CompatibilityRule := by
  intro r₁ r₂ s₁ s₂ p₁ p₂
  refine ⟨Range.overlaps_iff_byte r₁ r₂, ?_⟩
  rw [compatible_iff, phasesDiffer_iff, sharesAgree_iff]

/-! ## A lease that claims no more than another -/

/-- Lease k claims no more than lease l: the same share mode and phase, over a range that overlaps nothing which the
range of l does not overlap. -/
def Lease.Within (k l : Lease) : Prop :=
  k.share = l.share ∧ k.phase = l.phase ∧ ∀ r, k.range.overlaps r = true → l.range.overlaps r = true

/-- What the entry holds, if it is not FREE, claims no more than what the entry a holds. -/
def EntryBody.Within (b a : EntryBody) : Prop :=
  ∀ k, b.lease? = some k → ∃ l, a.lease? = some l ∧ k.Within l

/-- No entry of t claims more than the entry of the same number in s. -/
def State.Within (t s : State) : Prop := ∀ i, (t.entry i).body.Within (s.entry i).body

theorem Lease.within_refl (l : Lease) : l.Within l := ⟨rfl, rfl, fun _ h => h⟩

theorem Lease.Within.trans {j k l : Lease} (hjk : j.Within k) (hkl : k.Within l) : j.Within l := by
  obtain ⟨share, phase, range⟩ := hjk
  obtain ⟨share', phase', range'⟩ := hkl
  exact ⟨share.trans share', phase.trans phase', fun r h => range' r (range r h)⟩

/-- What was compatible with a lease is compatible with one that claims no more. -/
theorem Lease.Within.compatible {k l : Lease} (h : k.Within l) {r : Range} {s : Share} {p : Option Phase}
    (c : compatible l.range l.share l.phase r s p = true) : compatible k.range k.share k.phase r s p = true := by
  obtain ⟨share, phase, range⟩ := h
  rw [compatible_iff] at c ⊢
  rw [share, phase]
  refine c.imp_left fun apart => ?_
  exact Bool.eq_false_iff.mpr fun meet => Bool.eq_false_iff.mp apart (range r meet)

/-- Another countdown, rights or effective flag claims nothing new: share mode, phase and range are what matters. -/
theorem Lease.within_of_same {k l : Lease} (share : k.share = l.share) (phase : k.phase = l.phase)
    (range : k.range = l.range) : k.Within l := ⟨share, phase, fun _ h => range ▸ h⟩

/-- A narrowed lease claims no more (R79). -/
theorem Lease.within_of_narrowed (l : Lease) {order : Nat} (h : order ≤ l.range.order) (rights : Rights) :
    { l with rights := rights, range := { l.range with order := order } }.Within l :=
  ⟨rfl, rfl, fun _ meet => Range.overlaps_of_narrowed h meet⟩

theorem Lease.handedOver_within (l : Lease) : l.handedOver.Within l :=
  Lease.within_of_same rfl (by cases h : l.slot <;> simp [Lease.phase, Lease.handedOver, h]) rfl

theorem EntryBody.within_refl (b : EntryBody) : b.Within b := fun k h => ⟨k, h, k.within_refl⟩

theorem EntryBody.free_within (a : EntryBody) : EntryBody.free.Within a := fun _ h => nomatch h

theorem EntryBody.within_of_lease {b a : EntryBody} {k l : Lease} (hb : b.lease? = some k) (ha : a.lease? = some l)
    (h : k.Within l) : b.Within a := by
  intro j hj
  cases hb.symm.trans hj
  exact ⟨l, ha, h⟩

theorem EntryBody.Within.trans {c b a : EntryBody} (hcb : c.Within b) (hba : b.Within a) : c.Within a := by
  intro j hj
  obtain ⟨k, hk, hjk⟩ := hcb j hj
  obtain ⟨l, hl, hkl⟩ := hba k hk
  exact ⟨l, hl, hjk.trans hkl⟩

theorem EntryBody.makeEffective_within (b : EntryBody) (p : Phase) : (b.makeEffective p).Within b := by
  cases b with
  | active o l t =>
    simp only [EntryBody.makeEffective]
    split
    next x hx =>
      split
      · exact EntryBody.within_of_lease rfl rfl (Lease.within_of_same rfl (by simp [Lease.phase, hx]) rfl)
      · exact EntryBody.within_refl _
    next => exact EntryBody.within_refl _
  | free => exact EntryBody.within_refl _
  | retiring o l d => exact EntryBody.within_refl _
  | faulted l => exact EntryBody.within_refl _

theorem State.within_refl (s : State) : s.Within s := fun i => (s.entry i).body.within_refl

theorem State.Within.trans {u t s : State} (hut : u.Within t) (hts : t.Within s) : u.Within s :=
  fun i => (hut i).trans (hts i)

/-- A state with the same entries claims the same. -/
theorem State.within_of_entries {t s : State} (h : ∀ i, t.entry i = s.entry i) : t.Within s :=
  fun i => h i ▸ (s.entry i).body.within_refl

/-- A further change that leaves the entries as they stand claims nothing new. -/
theorem State.Within.frame {u t s : State} (h : t.Within s) (e : ∀ i, u.entry i = t.entry i) : u.Within s :=
  (State.within_of_entries e).trans h

theorem State.setEntry_within (s : State) (i : EntryId) (e : Entry) (h : e.body.Within (s.entry i).body) :
    (s.setEntry i e).Within s := by
  intro j
  rw [State.setEntry_entry]
  split
  next hij => exact hij ▸ h
  next => exact EntryBody.within_refl _

theorem foldl_within {β : Type} {f : State → β → State} (h : ∀ s x, (f s x).Within s) (l : List β) (s : State) :
    (l.foldl f s).Within s :=
  foldl_invariant (P := fun t => t.Within s) (fun t x ht => (h t x).trans ht) l s s.within_refl

theorem State.forEntries_within {f : State → EntryId → State} (h : ∀ s i, (f s i).Within s) (s : State) :
    (s.forEntries f).Within s := foldl_within h _ s

/-! ## The law -/

/-- The law looks at nothing but claims, and fewer claims keep it (R15). -/
theorem State.CompatibilityLaw.of_within {t s : State} (law : s.CompatibilityLaw) (h : t.Within s) :
    t.CompatibilityLaw := by
  intro i j ne k₁ k₂ h₁ h₂
  obtain ⟨l₁, e₁, w₁⟩ := h i k₁ h₁
  obtain ⟨l₂, e₂, w₂⟩ := h j k₂ h₂
  refine w₁.compatible ?_
  rw [compatible_comm]
  refine w₂.compatible ?_
  rw [compatible_comm]
  exact law i j ne l₁ l₂ e₁ e₂

@[simp] theorem Request.lease_phase (q : Request) : q.lease.phase = q.phase := by
  cases h : q.phase <;> simp [Lease.phase, Request.lease, h]

theorem State.allocate_entry (s : State) (i j : EntryId) (n : AgentId) (q : Request) :
    (s.allocate i n q).entry j =
      if i = j then { gen := (s.entry i).gen + 1, body := .active n q.lease none } else s.entry j :=
  State.setEntry_entry s i _ j

/-- The grant of a request without a conflict keeps the law (R14, R15). -/
theorem State.CompatibilityLaw.allocate {s : State} (law : s.CompatibilityLaw) (i : EntryId) (n : AgentId)
    {q : Request} (free : s.NoConflict q) : (s.allocate i n q).CompatibilityLaw := by
  have new : ∀ j k, (s.entry j).body.lease? = some k →
      compatible q.lease.range q.lease.share q.lease.phase k.range k.share k.phase = true := by
    intro j k hk
    rw [Request.lease_phase]
    exact free j k hk
  intro a b ne l k hl hk
  rw [State.allocate_entry] at hl hk
  by_cases ha : i = a
  · rw [if_pos ha] at hl
    rw [if_neg fun hb => ne (ha.symm.trans hb)] at hk
    cases hl
    exact new b k hk
  · rw [if_neg ha] at hl
    by_cases hb : i = b
    · rw [if_pos hb] at hk
      cases hk
      rw [compatible_comm]
      exact new a l hl
    · rw [if_neg hb] at hk
      exact law a b ne l k hl hk

/-! ## What an operation on entries claims -/

theorem State.freeEntry_within (s : State) (i : EntryId) : (s.freeEntry i).Within s :=
  (s.setEntry_within i _ (EntryBody.free_within _)).frame fun _ => State.setReexamine_entry _ _ _

theorem State.drained_within (s : State) (i : EntryId) (l : Lease) : (s.drained i l).Within s := by
  cases h : l.disposition with
  | keep => exact s.drained_keep i h ▸ s.freeEntry_within i
  | scrub => exact s.drained_scrub i h ▸ State.within_of_entries (s.joinQueue_entry i)

/-- A retiring entry keeps its lease until it is freed (R100). -/
theorem State.retire_within (s : State) (i : EntryId) : (s.retire i).Within s := by
  unfold State.retire
  split
  next o l t e =>
    have kept : ∀ d, (s.setEntry i { gen := (s.entry i).gen, body := .retiring (some o) l d }).Within s := fun d =>
      s.setEntry_within i _ (e ▸ EntryBody.within_of_lease rfl rfl l.within_refl)
    dsimp only
    split
    · exact kept _
    · exact (State.drained_within _ i l).trans (kept _)
  all_goals exact s.within_refl

theorem State.drainEntry_within (n : AgentId) (s : State) (i : EntryId) : (State.drainEntry n s i).Within s := by
  unfold State.drainEntry
  split
  next o l e =>
    split
    · exact (State.drained_within _ i l).trans
        (s.setEntry_within i _ (e ▸ EntryBody.within_of_lease rfl rfl l.within_refl))
    · exact s.within_refl
  all_goals exact s.within_refl

/-- An ACTIVE entry under another owner or offer, its lease claiming no more. -/
theorem State.setActive_within (s : State) {i : EntryId} {o : AgentId} {l : Lease} {t : Option AgentId}
    (e : (s.entry i).body = .active o l t) {v : ActiveView} (h : v.lease.Within l) : (s.setActive i v).Within s :=
  s.setEntry_within i _ (e ▸ EntryBody.within_of_lease rfl rfl h)

theorem Lease.withCount_within (l : Lease) (m : Timed) (c : Countdown) (r : Nat) (w : Bool) :
    (l.withCount m c r w).Within l := Lease.within_of_same rfl rfl rfl

theorem State.tickEntry_within (s : State) (i : EntryId) : (s.tickEntry i).Within s := by
  unfold State.tickEntry
  split
  next o l t e =>
    split
    next => exact s.within_refl
    next m c _ =>
      have counted : ∀ r w, (s.setActive i { owner := o, lease := l.withCount m c r w, offer := t }).Within s :=
        fun r w => s.setActive_within e (l.withCount_within m c r w)
      dsimp only
      split
      · exact ((State.retire_within _ i).trans (counted 0 c.warned)).frame fun _ => State.raise_entry _ _ _ _
      · split
        · exact (counted _ true).frame fun _ => State.raise_entry _ _ _ _
        · exact counted _ c.warned
  all_goals exact s.within_refl

theorem State.teardownEntry_within (n : AgentId) (s : State) (i : EntryId) :
    (State.teardownEntry n s i).Within s := by
  unfold State.teardownEntry
  split
  · exact s.retire_within i
  · exact s.within_refl

theorem State.teardownOffer_within (n : AgentId) (s : State) (i : EntryId) :
    (State.teardownOffer n s i).Within s := by
  unfold State.teardownOffer
  split
  next o l t e =>
    split
    · exact (s.setActive_within e l.within_refl).frame fun _ => State.raise_entry _ _ _ _
    · exact s.within_refl
  all_goals exact s.within_refl

theorem State.teardownWait_entry (n : AgentId) (s : State) (w : WaitId) (i : EntryId) :
    (State.teardownWait n s w).entry i = s.entry i := by
  unfold State.teardownWait
  split
  · exact State.freeWait_entry s w i
  · rfl

theorem State.teardown_within (s : State) (n : AgentId) : (s.teardown n).Within s := by
  have entries : (s.forEntries (State.teardownEntry n)).Within s :=
    State.forEntries_within (State.teardownEntry_within n) s
  have offers := (State.forEntries_within (State.teardownOffer_within n) _).trans entries
  refine offers.frame fun i => ?_
  simp only [State.teardown, State.teardownWindow, State.setReexamine_entry, State.setPort_entry,
    State.emptyStatus_entry]
  exact foldl_keeps (fun t => t.entry i) (fun t w => State.teardownWait_entry n t w i) _ _

/-- Another phase in force leaves the entries as they stand. -/
theorem State.inForce_within (s : State) (p : Option Phase) :
    State.Within { s with leases := { s.leases with inForce := p } } s := State.within_of_entries fun _ => rfl

theorem State.takeSequencerClaim_within (s : State) (c : SequencerClaim) : (s.takeSequencerClaim c).Within s := by
  cases c with
  | opening p =>
    have effective := fun (s : State) i =>
      s.setEntry_within i { s.entry i with body := (s.entry i).body.makeEffective p }
        ((s.entry i).body.makeEffective_within p)
    exact (State.inForce_within _ _).trans (State.forEntries_within effective s)
  | none => exact s.inForce_within none

theorem State.takeAllSequencerClaims_within (s : State) (c : SequencerClaim) :
    (s.takeAllSequencerClaims c).Within s :=
  (foldl_within State.takeSequencerClaim_within _ _).trans (State.within_of_entries fun _ => rfl)

theorem State.leaseTick_within (s : State) : s.leaseTick.Within s := by
  unfold State.leaseTick
  split
  · exact s.within_refl
  · exact (State.forEntries_within State.tickEntry_within _).trans (State.within_of_entries fun _ => rfl)

/-! ## What a claim of the ports claims of the Lease Table -/

theorem EntryBody.active_of_activeOf {b : EntryBody} {n : AgentId} {l : Lease} (h : b.activeOf n = some l) :
    ∃ t, b = .active n l t := by
  cases b with
  | active o k t =>
    simp only [EntryBody.activeOf] at h
    split at h
    next ho => exact ⟨t, by rw [ho, Option.some.inj h]⟩
    next => cases h
  | free => cases h
  | retiring o k d => cases h
  | faulted k => cases h

/-- The covering entry is an ACTIVE one of the agent, with the lease that is answered (R24). -/
theorem State.covering_active {s : State} {n : AgentId} {a : Addr} {i : EntryId} {l : Lease}
    (h : s.covering n a = some (i, l)) : ∃ t, (s.entry i).body = .active n l t := by
  obtain ⟨j, -, hj⟩ := List.exists_of_findSome?_eq_some h
  split at hj
  next k hk =>
    split at hj
    · cases hj
      exact EntryBody.active_of_activeOf hk
    · cases hj
  next => cases hj

theorem State.reloadCovering_within (s : State) (n : AgentId) (a : Addr) : (s.reloadCovering n a).Within s := by
  unfold State.reloadCovering
  split
  next i l h =>
    obtain ⟨t, e⟩ := State.covering_active h
    rw [e]
    exact s.setActive_within e (Lease.within_of_same rfl rfl rfl)
  next => exact s.within_refl

theorem State.decodeAccess_within (s : State) (n : AgentId) (c : MemCycle) : (s.decodeAccess n c).Within s := by
  unfold State.decodeAccess
  split
  next => exact State.within_of_entries fun _ => rfl
  next a _ =>
    split
    · exact State.within_of_entries fun _ => rfl
    · split
      · exact State.within_of_entries fun _ => rfl
      · exact (s.reloadCovering_within n a.info.addr).frame fun _ => rfl

theorem State.completeAccess_within (s : State) (n : AgentId) (b : BusAnswer) (reports : List FaultReport) :
    (s.completeAccess n b reports).Within s :=
  (State.forEntries_within (State.drainEntry_within n) _).trans (State.within_of_entries fun _ => rfl)

theorem State.accessDone_within (s : State) (n : AgentId) (a : Access) : (s.accessDone n a).Within s := by
  unfold State.accessDone
  split
  · exact (State.completeAccess_within _ n _ _).trans (State.within_of_entries (s.takeWord_entry _))
  all_goals exact s.completeAccess_within n _ _

theorem State.accessFailed_within (s : State) (n : AgentId) (a : Access) : (s.accessFailed n a).Within s :=
  (State.completeAccess_within _ n _ _).trans (State.within_of_entries (s.leaveWord_entry _))

theorem State.chunkDone_within (s : State) : s.chunkDone.Within s := by
  have still : ∀ x, (s.setScrub x).moveEngine.Within s := fun x =>
    State.within_of_entries fun _ => State.moveEngine_entry _ _
  unfold State.chunkDone
  dsimp only
  split
  next => exact still _
  next i rest _ =>
    split
    next l _ =>
      split
      · exact (s.freeEntry_within i).frame fun _ => State.moveEngine_entry _ _
      · exact still _
    next => exact still _

/-- A FAULTED entry keeps its lease (R119). -/
theorem State.chunkFailed_within (s : State) : s.chunkFailed.Within s := by
  unfold State.chunkFailed
  split
  next => exact State.within_of_entries s.moveEngine_entry
  next i rest _ =>
    split
    next l e =>
      have faulted : (s.setEntry i { gen := (s.entry i).gen, body := .faulted l }).Within s :=
        s.setEntry_within i _ (EntryBody.within_of_lease rfl e l.within_refl)
      exact faulted.frame fun _ => State.moveEngine_entry _ _
    next => exact State.within_of_entries s.moveEngine_entry

theorem State.wordDone_within (s : State) : s.wordDone.Within s := by
  unfold State.wordDone
  split
  next => exact s.within_refl
  next n a _ => exact s.accessDone_within n a
  next c k _ =>
    dsimp only
    split
    · exact State.within_of_entries (s.takeWord_entry _)
    · exact (State.chunkDone_within _).trans (State.within_of_entries (s.takeWord_entry _))

theorem State.wordFailed_within (s : State) : s.wordFailed.Within s := by
  unfold State.wordFailed
  split
  next => exact s.within_refl
  next n a _ => exact s.accessFailed_within n a
  next c k _ => exact (State.chunkFailed_within _).trans (State.within_of_entries fun _ => rfl)

/-! ## The device clock -/

theorem State.clockWord_within (s : State) : s.clockWord.Within s := by
  unfold State.clockWord
  split
  · exact s.within_refl
  · exact State.within_of_entries fun _ => rfl
  · split
    · exact State.within_of_entries fun _ => rfl
    · exact s.wordFailed_within

theorem State.clockDivider_entry (s : State) (i : EntryId) : s.clockDivider.entry i = s.entry i := by
  unfold State.clockDivider
  split
  · split <;> rfl
  · rfl

theorem State.clock_within (s : State) : s.clock.Within s := by
  unfold State.clock
  split
  · exact s.within_refl
  · exact (State.clockWord_within _).trans (State.within_of_entries s.clockDivider_entry)

/-! ## What the completion of a command claims -/

/-- A completion leaves the entries as they stand, or as the command's own run does. -/
theorem State.completeWith_entries (s : State) (c : Command)
    (run : AgentId → Vector Word 8 → State → State × Reply) :
    (∀ i, (s.completeWith c run).entry i = s.entry i) ∨
      ∃ n ps, ∀ i, (s.completeWith c run).entry i = (run n ps s).1.entry i := by
  rcases s.completeWith_cases c run with h | ⟨n, ps, -, h⟩
  · exact .inl fun i => by rw [h]
  · exact .inr ⟨n, ps, fun i => by rw [h, State.respond_entry, State.setJob_entry]⟩

theorem State.completeWith_within (s : State) (c : Command)
    {run : AgentId → Vector Word 8 → State → State × Reply} (h : ∀ n ps, (run n ps s).1.Within s) :
    (s.completeWith c run).Within s := by
  rcases s.completeWith_entries c run with e | ⟨n, ps, e⟩
  · exact State.within_of_entries e
  · exact (h n ps).frame e

theorem State.complete_within (s : State) (c : Command)
    {run : AgentId → Vector Word 8 → State → State × Reply} (h : ∀ n ps, (run n ps s).1.Within s) :
    (s.complete c run).Within s := by
  refine s.completeWith_within c fun n ps => ?_
  cases s.admission c n with
  | some st => exact s.within_refl
  | none => exact h n ps

theorem State.complete_entry (s : State) (c : Command)
    {run : AgentId → Vector Word 8 → State → State × Reply} (h : ∀ n ps i, (run n ps s).1.entry i = s.entry i)
    (i : EntryId) : (s.complete c run).entry i = s.entry i := by
  rcases s.complete_cases c run with e | ⟨n, ps, -, e | ⟨-, e⟩⟩
  · rw [e]
  · rw [e, State.respond_entry, State.setJob_entry]
  · rw [e, State.respond_entry, State.setJob_entry, h]

/-- A check that refuses leaves the claims as they stand; the rest of the command runs where it passes. -/
theorem State.check_within {s : State} {check : Prop} [Decidable check] {st : StatusCode} {rest : State × Reply}
    (h : ¬check → rest.1.Within s) : (if check then refuse s st else rest).1.Within s := by
  split
  · exact s.within_refl
  next passed => exact h passed

/-- A handle that resolves names an ACTIVE entry, as the command finds it (R8). -/
theorem State.resolve_ok {s : State} {h : Handle} {v : ActiveView} (e : s.resolve h = .ok v) :
    (s.entry h.entry).body = .active v.owner v.lease v.offer := by
  simp only [State.resolve] at e
  split at e
  · cases e
  · cases body : (s.entry h.entry).body with
    | active o l t =>
      rw [body] at e
      cases e
      rfl
    | free => rw [body] at e; cases e
    | retiring o l d => rw [body] at e; cases e
    | faulted l => rw [body] at e; cases e

/-- A handle that RETRY or FORGET resolves names a FAULTED entry (R121, R122). -/
theorem State.resolveFaulted_ok {s : State} {h : Handle} {l : Lease} (e : s.resolveFaulted h = .ok l) :
    (s.entry h.entry).body = .faulted l := by
  simp only [State.resolveFaulted] at e
  split at e
  · cases e
  · cases body : (s.entry h.entry).body with
    | faulted k =>
      rw [body] at e
      cases e
      rfl
    | free => rw [body] at e; cases e
    | active o k t => rw [body] at e; cases e
    | retiring o k d => rw [body] at e; cases e

theorem State.renew_within (n : AgentId) (ps : Vector Word 8) (s : State) : (State.renew n ps s).1.Within s := by
  simp only [State.renew]
  split
  next => exact s.within_refl
  next v e =>
    refine State.check_within fun _ => State.check_within fun _ => ?_
    exact s.setActive_within (State.resolve_ok e) (Lease.within_of_same rfl rfl rfl)

/-- NARROW's own check keeps the new range inside the old one (R78). -/
theorem Lease.order_le_of_narrowable {l : Lease} {order : Nat} {rights : Rights}
    (h : l.narrowable order rights = true) : order ≤ l.range.order := by
  simp only [Lease.narrowable, Bool.and_eq_true, decide_eq_true_eq] at h
  obtain ⟨⟨⟨⟨-, le⟩, -⟩, -⟩, -⟩ := h
  exact le

theorem State.narrow_within (n : AgentId) (ps : Vector Word 8) (s : State) : (State.narrow n ps s).1.Within s := by
  simp only [State.narrow]
  split
  next => exact s.within_refl
  next v e =>
    refine State.check_within fun _ => State.check_within fun passed => ?_
    have le := Lease.order_le_of_narrowable (Bool.not_not_eq.mp passed)
    exact (s.setActive_within (State.resolve_ok e) (v.lease.within_of_narrowed le _)).frame fun _ => rfl

theorem State.release_within (n : AgentId) (ps : Vector Word 8) (s : State) :
    (State.release n ps s).1.Within s := by
  simp only [State.release]
  split
  next => exact s.within_refl
  next v _ => exact State.check_within fun _ => s.retire_within _

theorem State.revoke_within (n : AgentId) (ps : Vector Word 8) (s : State) : (State.revoke n ps s).1.Within s := by
  simp only [State.revoke]
  split
  next => exact s.within_refl
  next v _ => exact (s.retire_within _).frame (State.raise_entry _ .revoked v.owner)

theorem State.offer_within (n : AgentId) (ps : Vector Word 8) (s : State) : (State.offer n ps s).1.Within s := by
  simp only [State.offer]
  split
  next => exact s.within_refl
  next v e =>
    refine State.check_within fun _ => ?_
    split
    next => exact s.within_refl
    next t _ =>
      refine State.check_within fun _ => State.check_within fun _ => ?_
      exact (s.setActive_within (v := { v with offer := some t }) (State.resolve_ok e) v.lease.within_refl).frame
        fun _ => rfl

theorem State.accept_within (n : AgentId) (ps : Vector Word 8) (s : State) : (State.accept n ps s).1.Within s := by
  simp only [State.accept]
  split
  next => exact s.within_refl
  next v e =>
    refine State.check_within fun _ => State.check_within fun _ => State.check_within fun _ =>
      State.check_within fun _ => ?_
    exact (s.setActive_within (State.resolve_ok e) v.lease.handedOver_within).frame fun _ => rfl

theorem State.decline_within (n : AgentId) (ps : Vector Word 8) (s : State) :
    (State.decline n ps s).1.Within s := by
  simp only [State.decline]
  split
  next => exact s.within_refl
  next v e =>
    refine State.check_within fun _ => ?_
    exact (s.setActive_within (v := { v with offer := none }) (State.resolve_ok e) v.lease.within_refl).frame
      fun _ => rfl

/-- RETRY has the lease retire anew (R121). -/
theorem State.retry_within (n : AgentId) (ps : Vector Word 8) (s : State) : (State.retry n ps s).1.Within s := by
  simp only [State.retry]
  split
  next => exact s.within_refl
  next l e =>
    have retiring := EntryBody.within_of_lease (b := .retiring none l false) rfl
      (congrArg EntryBody.lease? (State.resolveFaulted_ok e)) l.within_refl
    exact (s.setEntry_within _ _ retiring).frame (State.joinQueue_entry _ _)

theorem State.forget_within (n : AgentId) (ps : Vector Word 8) (s : State) : (State.forget n ps s).1.Within s := by
  simp only [State.forget]
  split
  next => exact s.within_refl
  next => exact s.freeEntry_within _

theorem State.writePhases_within (n : AgentId) (ps : Vector Word 8) (s : State) :
    (State.writePhases n ps s).1.Within s := by
  simp only [State.writePhases]
  split
  · split
    · exact (State.takeAllSequencerClaims_within _ _).trans (State.within_of_entries fun _ => rfl)
    · exact State.within_of_entries fun _ => rfl
  · exact State.within_of_entries fun _ => rfl

/-! ## Commands that leave the entries as they stand -/

theorem State.query_fst (n : AgentId) (ps : Vector Word 8) (s : State) : (State.query n ps s).1 = s := by
  simp only [State.query]
  split
  · rfl
  · split
    · rfl
    · split
      · rfl
      · split <;> rfl

theorem State.find_fst (n : AgentId) (ps : Vector Word 8) (s : State) : (State.find n ps s).1 = s := by
  simp only [State.find]
  split
  · rfl
  · split
    · rfl
    · split <;> rfl

theorem State.readProfile_fst (n : AgentId) (ps : Vector Word 8) (s : State) :
    (State.readProfile n ps s).1 = s := by
  simp only [State.readProfile]
  split
  · rfl
  · split <;> rfl

theorem State.collect_entry (n : AgentId) (ps : Vector Word 8) (s : State) (i : EntryId) :
    (State.collect n ps s).1.entry i = s.entry i := by
  simp only [State.collect]
  split <;> rfl

theorem State.cancel_entry (n : AgentId) (ps : Vector Word 8) (s : State) (i : EntryId) :
    (State.cancel n ps s).1.entry i = s.entry i := by
  simp only [State.cancel]
  split <;> rfl

theorem State.detach_entry (n : AgentId) (ps : Vector Word 8) (s : State) (i : EntryId) :
    (State.detach n ps s).1.entry i = s.entry i := by
  simp only [State.detach]
  split
  · rfl
  next m _ =>
    split
    · rfl
    · exact s.detachEvent_entry m i

theorem State.writeProfile_entry (n : AgentId) (ps : Vector Word 8) (s : State) (i : EntryId) :
    (State.writeProfile n ps s).1.entry i = s.entry i := by
  simp only [State.writeProfile]
  split
  · rfl
  · split
    · rfl
    · split
      · rfl
      · split <;> rfl

theorem State.lockProfile_entry (n : AgentId) (ps : Vector Word 8) (s : State) (i : EntryId) :
    (State.lockProfile n ps s).1.entry i = s.entry i := by
  simp only [State.lockProfile]
  split <;> rfl

theorem State.writeGuard_entry (n : AgentId) (ps : Vector Word 8) (s : State) (i : EntryId) :
    (State.writeGuard n ps s).1.entry i = s.entry i := by
  simp only [State.writeGuard]
  split
  · rfl
  · split
    · rfl
    · split <;> rfl

theorem State.timebaseStart_entry (n : AgentId) (ps : Vector Word 8) (s : State) (i : EntryId) :
    (State.timebaseStart n ps s).1.entry i = s.entry i := by
  simp only [State.timebaseStart]
  split <;> rfl

theorem State.scrubHold_entry (n : AgentId) (ps : Vector Word 8) (s : State) (i : EntryId) :
    (State.scrubHold n ps s).1.entry i = s.entry i := by
  simp only [State.scrubHold]
  split
  · rfl
  · split
    · rfl
    · split <;> rfl
  all_goals rfl

theorem State.scrubGo_entry (n : AgentId) (ps : Vector Word 8) (s : State) (i : EntryId) :
    (State.scrubGo n ps s).1.entry i = s.entry i := by
  simp only [State.scrubGo]
  split
  · split
    · rfl
    · exact State.requestChunk_entry _ i
  · split <;> rfl
  · rfl
  · rfl

theorem execFaultReport_entry {n : AgentId} {s t : State} (h : execFaultReport n s = .next t) (i : EntryId) :
    t.entry i = s.entry i := by
  unfold execFaultReport at h
  split at h <;> cases h <;> rfl

theorem execLmTake_entry {s t : State} (h : execLmTake s = .next t) (i : EntryId) : t.entry i = s.entry i := by
  unfold execLmTake at h
  split at h
  · cases h; rfl
  · split at h
    · cases h; rfl
    · split at h
      · cases h; exact State.endPassIfDone_entry _ i
      · split at h <;> cases h <;> rfl

theorem execBadCmd_entry {s t : State} (h : execBadCmd s = .next t) (i : EntryId) : t.entry i = s.entry i := by
  unfold execBadCmd at h
  split at h
  · split at h <;> cases h
    · rfl
    · exact State.respond_entry _ _ _ _ i
  all_goals cases h; rfl

theorem execAgrstAssert_entry {n : AgentId} {s t : State} (h : execAgrstAssert n s = .next t) (i : EntryId) :
    t.entry i = s.entry i := by
  unfold execAgrstAssert at h
  split at h
  · cases h; rfl
  · split at h <;> cases h
    · rfl
    · exact State.detachEvent_entry _ n i

theorem execAgrstRelease_entry {n : AgentId} {s t : State} (h : execAgrstRelease n s = .next t) (i : EntryId) :
    t.entry i = s.entry i := by
  simp only [execAgrstRelease] at h
  split at h
  · split at h <;> cases h <;> rfl
  · cases h; rfl

theorem State.readLine_entry (s : State) (n : AgentId) (i : EntryId) : (s.readLine n).entry i = s.entry i := by
  unfold State.readLine
  split
  · exact s.detachEvent_entry n i
  · rfl

theorem execResetRelease_entry {order : List AgentId} {s t : State} (h : execResetRelease order s = .next t)
    (i : EntryId) : t.entry i = s.entry i := by
  unfold execResetRelease at h
  split at h <;> cases h
  · exact foldl_keeps (fun u => u.entry i) (fun u n => u.readLine_entry n i) _ _
  · rfl

/-! ### The Wait List and the sequencer -/

theorem State.tickWait_entry (s : State) (w : WaitId) (i : EntryId) : (s.tickWait w).entry i = s.entry i := by
  unfold State.tickWait
  split
  · split
    · exact s.resolveWait_entry w .timedOut i
    · rfl
  all_goals rfl

theorem State.waitTick_entry (s : State) (i : EntryId) : s.waitTick.entry i = s.entry i := by
  unfold State.waitTick
  split
  · rfl
  · rw [State.endPassIfDone_entry]
    exact foldl_keeps (fun u => u.entry i) (fun u w => u.tickWait_entry w i) _ _

theorem State.phaseTick_entry (s : State) (i : EntryId) : s.phaseTick.entry i = s.entry i := by
  unfold State.phaseTick
  split
  · rfl
  next k _ =>
    dsimp only
    cases ({ s.phases with ticksDue := k } : PhaseSequencer).tick.2 <;> rfl

theorem execWaitTimeout_entry {s t : State} (h : execWaitTimeout s = .next t) (i : EntryId) :
    t.entry i = s.entry i := by
  unfold execWaitTimeout at h
  split at h <;> cases h
  · exact s.waitTick_entry i
  · rfl

theorem execPhaseAdvance_entry {s t : State} (h : execPhaseAdvance s = .next t) (i : EntryId) :
    t.entry i = s.entry i := by
  unfold execPhaseAdvance at h
  split at h <;> cases h
  · exact s.phaseTick_entry i
  · rfl

/-! ### The windows -/

theorem State.presentWindow_entry (s : State) (n : AgentId) (c : WindowCycle) {take : State → State} (i : EntryId)
    (h : ∀ t : State, (take t).entry i = t.entry i) : (s.presentWindow n c take).entry i = s.entry i := by
  unfold State.presentWindow
  split
  · rfl
  · exact h _

theorem State.windowStore_entry (s : State) (n : AgentId) (k : Fin 16) (v : Word) (i : EntryId) :
    (s.windowStore n k v).entry i = s.entry i := by
  unfold State.windowStore
  split
  · rfl
  · split
    · rfl
    · split
      · rfl
      · split <;> rfl

theorem State.windowCycle_entry (s : State) (n : AgentId) (c : WindowCycle) (i : EntryId) :
    (s.windowCycle n c).entry i = s.entry i := by
  unfold State.windowCycle
  split
  · rfl
  · split
    · exact s.windowStore_entry n c.word c.data i
    · rfl

theorem execWindowWrite_entry {n : AgentId} {c : WindowSelect} {s t : State} (h : execWindowWrite n c s = .next t)
    (i : EntryId) : t.entry i = s.entry i := by
  unfold execWindowWrite at h
  split at h <;> cases h
  · exact s.presentWindow_entry n _ i fun u => u.windowCycle_entry n _ i
  · exact s.presentWindow_entry n _ i fun u => u.windowCycle_entry n _ i
  · rfl

/-! ## Commands that change entries -/

theorem execAccessDecode_within {n : AgentId} {c : MemSelect} {s t : State} (h : execAccessDecode n c s = .next t) :
    t.Within s := by
  have taken : ∀ m, ((s.setHeld n none).decodeAccess n m).Within s := fun m =>
    (State.decodeAccess_within _ n m).trans (State.within_of_entries fun _ => rfl)
  unfold execAccessDecode at h
  split at h
  · split at h <;> cases h
    · exact taken _
    · exact State.within_of_entries fun _ => rfl
  · split at h <;> cases h
    · exact taken _
    · exact s.within_refl
  · cases h; exact s.within_refl

theorem execTeardown_within {s t : State} (h : execTeardown s = .next t) : t.Within s := by
  unfold execTeardown at h
  split at h
  next n _ =>
    rw [← Host.Outcome.next.inj h]
    exact (s.teardown_within n).frame (State.setJob_entry _ none)
  all_goals cases h; exact s.within_refl

theorem execTick_within {c : TickClaim} {s t : State} (h : execTick c s = .next t) : t.Within s := by
  cases c with
  | produced =>
    simp only [execTick] at h
    split at h <;> cases h
    · exact State.within_of_entries fun _ => rfl
    · exact s.within_refl
  | leaseTable => cases h; exact s.leaseTick_within
  | waitList => cases h; exact State.within_of_entries s.waitTick_entry
  | phaseSequencer => cases h; exact State.within_of_entries s.phaseTick_entry

theorem execExpiry_within {s t : State} (h : execExpiry s = .next t) : t.Within s := by
  unfold execExpiry at h
  split at h <;> cases h
  · exact s.leaseTick_within
  · exact s.within_refl

theorem execOpening_within {s t : State} (h : execOpening s = .next t) : t.Within s := by
  unfold execOpening at h
  split at h <;> cases h
  · exact (State.takeSequencerClaim_within _ _).trans (State.within_of_entries fun _ => rfl)
  all_goals exact s.within_refl

theorem execNoneClaim_within {s t : State} (h : execNoneClaim s = .next t) : t.Within s := by
  unfold execNoneClaim at h
  split at h <;> cases h
  · exact (State.takeSequencerClaim_within _ _).trans (State.within_of_entries fun _ => rfl)
  all_goals exact s.within_refl

/-! ## What an event can do to the claims of the Lease Table -/

/-- The three ways in which an event goes from s to t: no entry claims more than before, or one entry is granted to a
request that conflicts with none, or the table is as at device reset. -/
inductive State.LeaseChange (s t : State) : Prop where
  | fewer (h : t.Within s)
  | grant (i : EntryId) (n : AgentId) (q : Request) (free : s.NoConflict q)
      (h : ∀ j, t.entry j = (s.allocate i n q).entry j)
  | reset (h : ∀ j, t.entry j = State.reset.entry j)

theorem State.LeaseChange.same {s t : State} (h : ∀ i, t.entry i = s.entry i) : s.LeaseChange t :=
  .fewer (State.within_of_entries h)

theorem State.LeaseChange.frame {s t u : State} (c : s.LeaseChange t) (e : ∀ i, u.entry i = t.entry i) :
    s.LeaseChange u := by
  cases c with
  | fewer h => exact .fewer (h.frame e)
  | grant i n q free h => exact .grant i n q free fun j => (e j).trans (h j)
  | reset h => exact .reset fun j => (e j).trans (h j)

/-- A check that refuses changes no entry; the rest of the command runs where it passes. -/
theorem State.check_leaseChange {s : State} {check : Prop} [Decidable check] {st : StatusCode} {rest : State × Reply}
    (h : ¬check → s.LeaseChange rest.1) : s.LeaseChange (if check then refuse s st else rest).1 := by
  split
  · exact .same fun _ => rfl
  next passed => exact h passed

theorem State.queueOr_entry (s : State) (n : AgentId) (q : Request) (ps : Vector Word 8) (st : StatusCode)
    (i : EntryId) : (s.queueOr n q ps st).1.entry i = s.entry i := by
  unfold State.queueOr
  split
  · split
    · split <;> rfl
    · rfl
  · rfl

/-- ACQUIRE grants where its check 6 finds no conflict, and changes no entry otherwise (R69, R71). -/
theorem State.acquire_leaseChange (n : AgentId) (ps : Vector Word 8) (s : State) :
    s.LeaseChange (State.acquire n ps s).1 := by
  have refused : s.LeaseChange s := .same fun _ => rfl
  unfold State.acquire
  split
  next => exact refused
  next q _ =>
    refine State.check_leaseChange fun _ => State.check_leaseChange fun _ => State.check_leaseChange fun _ =>
      State.check_leaseChange fun _ => State.check_leaseChange fun _ => ?_
    split
    · exact .same (s.queueOr_entry n q ps .conflict)
    next noConflict =>
      split
      · exact .same (s.queueOr_entry n q ps .tableFull)
      next i _ =>
        have free : s.NoConflict q := Classical.not_not.mp fun met =>
          noConflict (Bool.or_eq_true_iff.mpr (.inl ((s.conflicts_iff q).mpr met)))
        exact .grant i n q free fun _ => rfl

/-- A step of the pass grants where condition 1 of R91 finds no conflict, and changes no entry otherwise (R91, R92). -/
theorem State.examine_leaseChange (s : State) (w : WaitId) : s.LeaseChange (s.examine w) := by
  unfold State.examine
  split
  next n q _ _ =>
    split
    · exact .same (s.resolveWait_entry w .denied)
    · split
      · exact .same (s.resolveWait_entry w .guarded)
      · split
        next grantable =>
          split
          next i _ =>
            have free : s.NoConflict q := by
              simp only [State.grantable, Bool.and_eq_true, Bool.not_eq_true'] at grantable
              obtain ⟨⟨⟨noConflict, -⟩, -⟩, -⟩ := grantable
              exact Classical.not_not.mp fun met => Bool.eq_false_iff.mp noConflict ((s.conflicts_iff q).mpr met)
            exact .grant i n q free (State.resolveWait_entry _ w _)
          next => exact .same fun _ => rfl
        next => exact .same fun _ => rfl
  all_goals exact .same fun _ => rfl

theorem execAcquire_leaseChange {s t : State} (h : execAcquire s = .next t) : s.LeaseChange t := by
  cases h
  rcases s.completeWith_entries .acquire State.acquire with e | ⟨n, ps, e⟩
  · exact .same e
  · exact (State.acquire_leaseChange n ps s).frame e

theorem execPassStep_leaseChange {s t : State} (h : execPassStep s = .next t) : s.LeaseChange t := by
  unfold execPassStep at h
  split at h
  · split at h <;> cases h
    · exact .same fun _ => rfl
    next w rest _ => exact (s.examine_leaseChange w).frame fun _ => State.endPassIfDone_entry _ _
  all_goals cases h; exact .same fun _ => rfl

/-- What every command does to the claims of the Lease Table. -/
theorem exec_leaseChange {c : Instr} {s t : State} (h : exec c s = .next t) : s.LeaseChange t := by
  cases c with
  -- the grants and the reset
  | acquire => exact execAcquire_leaseChange h
  | passStep => exact execPassStep_leaseChange h
  | resetAssert => cases h; exact .reset fun _ => rfl
  -- the completions that change entries
  | renew => cases h; exact .fewer (s.complete_within .renew fun n ps => s.renew_within n ps)
  | narrow => cases h; exact .fewer (s.complete_within .narrow fun n ps => s.narrow_within n ps)
  | release => cases h; exact .fewer (s.complete_within .release fun n ps => s.release_within n ps)
  | revoke => cases h; exact .fewer (s.complete_within .revoke fun n ps => s.revoke_within n ps)
  | offer => cases h; exact .fewer (s.complete_within .offer fun n ps => s.offer_within n ps)
  | accept => cases h; exact .fewer (s.complete_within .accept fun n ps => s.accept_within n ps)
  | decline => cases h; exact .fewer (s.complete_within .decline fun n ps => s.decline_within n ps)
  | retry => cases h; exact .fewer (s.complete_within .retry fun n ps => s.retry_within n ps)
  | forget => cases h; exact .fewer (s.complete_within .forget fun n ps => s.forget_within n ps)
  | setPhases => cases h; exact .fewer (s.complete_within .setPhases fun n ps => s.writePhases_within n ps)
  -- the completions that leave the entries, and the Lease Manager's own claims
  | query => cases h; exact .same (s.complete_entry .query fun n ps i => by rw [s.query_fst n ps])
  | find => cases h; exact .same (s.complete_entry .find fun n ps i => by rw [s.find_fst n ps])
  | profile => cases h; exact .same (s.complete_entry .profile fun n ps i => by rw [s.readProfile_fst n ps])
  | collect => cases h; exact .same (s.complete_entry .collect fun n ps => s.collect_entry n ps)
  | cancel => cases h; exact .same (s.complete_entry .cancel fun n ps => s.cancel_entry n ps)
  | detach => cases h; exact .same (s.complete_entry .detach fun n ps => s.detach_entry n ps)
  | setProfile => cases h; exact .same (s.complete_entry .setProfile fun n ps => s.writeProfile_entry n ps)
  | lockProfile => cases h; exact .same (s.complete_entry .lockProfile fun n ps => s.lockProfile_entry n ps)
  | setGuard => cases h; exact .same (s.complete_entry .setGuard fun n ps => s.writeGuard_entry n ps)
  | timebaseStart => cases h; exact .same (s.complete_entry .timebaseStart fun n ps => s.timebaseStart_entry n ps)
  | scrubHold => cases h; exact .same (s.complete_entry .scrubHold fun n ps => s.scrubHold_entry n ps)
  | scrubGo => cases h; exact .same (s.complete_entry .scrubGo fun n ps => s.scrubGo_entry n ps)
  | fault => cases h; exact .same (s.complete_entry .fault fun _ _ _ => rfl)
  | setTimebase => cases h; exact .same (s.complete_entry .setTimebase fun _ _ _ => rfl)
  | timebaseStop => cases h; exact .same (s.complete_entry .timebaseStop fun _ _ _ => rfl)
  | badCmd => exact .same (execBadCmd_entry h)
  | lmTake => exact .same (execLmTake_entry h)
  | teardown => exact .fewer (execTeardown_within h)
  -- the accesses and the Memory Port
  | accessDecode n c => exact .fewer (execAccessDecode_within h)
  | faultReport n => exact .same (execFaultReport_entry h)
  | memoryGrant => cases h; exact .same fun _ => rfl
  | mack => cases h; exact .fewer s.wordDone_within
  | merr m => cases h; exact .fewer s.wordFailed_within
  | acknowledgeTimeout => cases h; exact .fewer s.wordFailed_within
  -- the window select
  | paramWrite n k v => cases h; exact .same fun i => s.presentWindow_entry n _ i fun _ => rfl
  | commandWrite n v => cases h; exact .same fun i => s.presentWindow_entry n _ i fun _ => rfl
  | intstatWrite n v => cases h; exact .same fun i => s.presentWindow_entry n _ i fun _ => rfl
  | intenWrite n v => cases h; exact .same fun i => s.presentWindow_entry n _ i fun _ => rfl
  | windowWrite n c => exact .same (execWindowWrite_entry h)
  -- time
  | tick c => exact .fewer (execTick_within h)
  | expiry => exact .fewer (execExpiry_within h)
  | waitTimeout => exact .same (execWaitTimeout_entry h)
  | phaseAdvance => exact .same (execPhaseAdvance_entry h)
  | opening => exact .fewer (execOpening_within h)
  | noneClaim => exact .fewer (execNoneClaim_within h)
  -- the lines
  | agrstAssert n => exact .same (execAgrstAssert_entry h)
  | agrstRelease n => exact .same (execAgrstRelease_entry h)
  | resetRelease order => exact .same (execResetRelease_entry h)

/-! ## The law of every step -/

theorem State.reset_entry_of_ne {i : EntryId} (h : i ≠ 0) : State.reset.entry i = { gen := 0, body := .free } := by
  revert i
  decide +kernel

/-- At device reset the boot lease stands alone (R19). -/
theorem State.reset_compatibilityLaw : State.reset.CompatibilityLaw := by
  intro i j ne l k hl hk
  by_cases hi : i = 0
  · rw [State.reset_entry_of_ne fun hj => ne (hi.trans hj.symm)] at hk
    cases hk
  · rw [State.reset_entry_of_ne hi] at hl
    cases hl

/-- Whatever changes the Lease Table keeps the law (R15). -/
theorem State.CompatibilityLaw.of_leaseChange {s t : State} (law : s.CompatibilityLaw) (c : s.LeaseChange t) :
    t.CompatibilityLaw := by
  cases c with
  | fewer h => exact law.of_within h
  | grant i n q free h => exact (law.allocate i n free).of_within (State.within_of_entries h)
  | reset h => exact State.reset_compatibilityLaw.of_within (State.within_of_entries h)

/-- Settles O52: an event leaves fewer claims, grants a request that conflicts with none, or resets the table. -/
theorem compatibilityIsKept : Obligations.CompatibilityIsKept := by
  refine ⟨State.reset_compatibilityLaw, fun s t law h => ?_⟩
  refine step_keeps (P := State.CompatibilityLaw) ?queue ?command ?clock law h
  case queue => exact fun s l law => law.of_within (State.within_of_entries fun _ => rfl)
  case command => exact fun c s t h law => law.of_leaseChange (exec_leaseChange h)
  case clock => exact fun s law => law.of_within s.clock_within

end Sys2Proof.Machine
end

section
/-! SUPPORT. R57: the selector that FIND's parameters give, the entry its walk of the Lease Table answers, and FIND's
results. -/

namespace Sys2Proof.Machine

/-! ## The selector (R57) -/

theorem selectorField_of_any {ps : Vector Word 8} (any : bit ps[1] 7 = true) : selectorField ps = some .any := by
  rw [selectorField, if_pos any]

theorem selectorField_of_agent {ps : Vector Word 8} {m : AgentId} (any : bit ps[1] 7 = false)
    (hm : m.val = field ps[1] 0 3) : selectorField ps = some (.agent m) := by
  rw [selectorField, if_neg (Bool.eq_false_iff.mp any), agentField_of_lt hm, Option.map_some]

theorem selectorField_of_noAgent {ps : Vector Word 8} (any : bit ps[1] 7 = false) (h : 6 ≤ field ps[1] 0 3) :
    selectorField ps = none := by
  rw [selectorField, if_neg (Bool.eq_false_iff.mp any), agentField_of_ge h, Option.map_none]

/-- Agent 0 may name every selector, another agent itself alone. -/
theorem Selector.allowed_iff (x : Selector) (n : AgentId) : x.allowed n = true ↔ n = 0 ∨ x = .agent n := by
  rw [Selector.allowed, Bool.or_eq_true, beq_iff_eq, beq_iff_eq]

theorem Selector.hits_any_iff (b : EntryBody) : Selector.any.hits b = true ↔ b ≠ .free := by
  rw [Selector.hits, Bool.not_eq_true', Bool.eq_false_iff, ne_eq, EntryBody.isFree_iff]

/-- The Owner field names an agent in an ACTIVE entry, and in a RETIRING one until it is cleared. -/
theorem EntryBody.owner?_eq_some_iff (b : EntryBody) (m : AgentId) :
    b.owner? = some m ↔ (∃ l x, b = .active m l x) ∨ ∃ l d, b = .retiring (some m) l d := by
  cases b <;> simp [EntryBody.owner?]

theorem Selector.hits_agent_iff (m : AgentId) (b : EntryBody) :
    (Selector.agent m).hits b = true ↔ (∃ l x, b = .active m l x) ∨ ∃ l d, b = .retiring (some m) l d := by
  rw [Selector.hits, beq_iff_eq, EntryBody.owner?_eq_some_iff]

/-! ## The walk of the Lease Table (R57) -/

theorem State.findFrom_of_lowest (s : State) {start i : EntryId} {x : Selector} (from_start : start ≤ i)
    (hit : x.hits (s.entry i).body = true)
    (lower : ∀ j, start ≤ j → j < i → ¬x.hits (s.entry j).body = true) : s.findFrom start x = some i := by
  refine find?_lowest allEntries_rising (mem_allEntries i) ?_ fun j _ below => ?_
  · rw [hit, Bool.and_true, decide_eq_true_iff]
    exact from_start
  · rw [Bool.eq_false_iff, ne_eq, Bool.and_eq_true, decide_eq_true_iff]
    rintro ⟨from_start, hit⟩
    exact lower j from_start below hit

theorem State.findFrom_of_none (s : State) {start : EntryId} {x : Selector}
    (none_hit : ∀ i, start ≤ i → ¬x.hits (s.entry i).body = true) : s.findFrom start x = none := by
  refine List.find?_eq_none.mpr fun i _ => ?_
  rw [Bool.and_eq_true, decide_eq_true_iff]
  rintro ⟨from_start, hit⟩
  exact none_hit i from_start hit

/-! ## The words of the result (R60, R62) -/

theorem Handle.word_toNat (h : Handle) : h.word.toNat = h.entry.val + 256 * h.gen.toNat := by
  have entry : h.entry.val < 64 := h.entry.isLt
  have gen : h.gen.toNat < 256 := h.gen.isLt
  have low : (place 0 h.entry.val).toNat = h.entry.val * 2 ^ 0 := toNat_place (by omega)
  rw [Handle.word, toNat_or_place (by omega) (by omega), low]
  omega

theorem Handle.word_eq_ofNat (h : Handle) : h.word = BitVec.ofNat 32 (h.entry.val + 256 * h.gen.toNat) := by
  rw [← h.word_toNat, BitVec.ofNat_toNat, BitVec.setWidth_eq]

/-! ## FIND's completion (R57) -/

section
variable {s : State} {n : AgentId} {ps : Vector Word 8}

theorem State.find_of_badArg (h : selectorField ps = none) : State.find n ps s = (s, { status := .badArg }) := by
  rw [State.find, h]
  rfl

theorem State.find_of_denied {x : Selector} (h : selectorField ps = some x) (a : ¬(n = 0 ∨ x = .agent n)) :
    State.find n ps s = (s, { status := .denied }) := by
  simp only [State.find, h, Bool.eq_false_iff.mpr (mt (x.allowed_iff n).mp a), Bool.not_false, if_true, refuse]

theorem entryField_of_eq {w : Word} {start : EntryId} (h : start.val = field w 0 6) :
    (w.extractLsb' 0 6).toFin = start := Fin.ext h.symm

/-- The result where the walk from PARAM0's entry ends with no entry hit. -/
theorem State.find_of_noHit {x : Selector} {start : EntryId} (hs : start.val = field ps[0] 0 6)
    (h : selectorField ps = some x) (a : n = 0 ∨ x = .agent n) (f : s.findFrom start x = none) :
    State.find n ps s = (s, { status := .ok, r0 := 0x80000000 }) := by
  simp only [State.find, h, (x.allowed_iff n).mpr a, Bool.not_true, Bool.false_eq_true, if_false,
    entryField_of_eq hs, f]
  rfl

/-- The result where the walk from PARAM0's entry hits entry i. -/
theorem State.find_of_hit {x : Selector} {start i : EntryId} (hs : start.val = field ps[0] 0 6)
    (h : selectorField ps = some x) (a : n = 0 ∨ x = .agent n) (f : s.findFrom start x = some i) :
    State.find n ps s =
      (s, { status := .ok
            r0 := BitVec.ofNat 32 (i.val + 256 * (s.entry i).gen.toNat)
            r1 := place 0 (s.entry i).body.stateCode }) := by
  simp only [State.find, h, (x.allowed_iff n).mpr a, Bool.not_true, Bool.false_eq_true, if_false,
    entryField_of_eq hs, f, Handle.word_eq_ofNat]

/-- What FIND's run answers is what its window holds once the completion is done (R52). -/
theorem exec_find_of_result {r : Reply} (run : s.Runs n .find ps) (h : State.find n ps s = (s, r)) :
    exec .find s = .next (s.answered n 0x06 r) :=
  congrArg Host.Outcome.next (State.complete_answered s run h rfl)

end

/-- Settles O38: the selector is the one PARAM1 spells, and the walk answers the lowest entry that it hits. -/
theorem findWalksTheTable : Obligations.FindWalksTheTable := by
  intro s n ps start run hs
  refine ⟨fun any noAgent => ?badArg, fun notSupervisor other => ?denied, fun hit names => ?walk⟩
  case badArg => exact exec_find_of_result run (State.find_of_badArg (selectorField_of_noAgent any noAgent))
  case denied =>
    obtain ⟨x, hx, ne⟩ : ∃ x, selectorField ps = some x ∧ x ≠ .agent n := by
      rcases other with any | ⟨lt, ne⟩
      · exact ⟨.any, selectorField_of_any any, nofun⟩
      · cases any : bit ps[1] 7 with
        | true => exact ⟨.any, selectorField_of_any any, nofun⟩
        | false =>
          refine ⟨.agent ⟨_, lt⟩, selectorField_of_agent any rfl, fun e => ne ?_⟩
          exact congrArg Fin.val (Selector.agent.inj e)
    exact exec_find_of_result run (State.find_of_denied hx (not_or.mpr ⟨notSupervisor, ne⟩))
  case walk =>
    obtain ⟨x, hx, allowed, hits⟩ : ∃ x, selectorField ps = some x ∧ (n = 0 ∨ x = .agent n) ∧
        ∀ i, hit i ↔ x.hits (s.entry i).body = true := by
      rcases names with ⟨any, supervisor, hits⟩ | ⟨any, m, hm, own, hits⟩
      · exact ⟨.any, selectorField_of_any any, .inl supervisor,
          fun i => (hits i).trans (Selector.hits_any_iff _).symm⟩
      · exact ⟨.agent m, selectorField_of_agent any hm, own.imp_right (congrArg Selector.agent),
          fun i => (hits i).trans (Selector.hits_agent_iff m _).symm⟩
    simp only [hits]
    refine ⟨fun none_hit => exec_find_of_result run (State.find_of_noHit hs hx allowed (s.findFrom_of_none none_hit)),
      fun i from_start hit_i lower => ⟨_, exec_find_of_result run (State.find_of_hit hs hx allowed
        (s.findFrom_of_lowest from_start hit_i lower)), ?active, ?retiring, ?faulted⟩⟩
    case active => exact fun o l x e => by rw [e]; rfl
    case retiring => exact fun o l d e => by rw [e]; rfl
    case faulted => exact fun l e => by rw [e]; rfl

end Sys2Proof.Machine
end

section
/-! SUPPORT. R84, R95, R96: what the ticket of COLLECT and CANCEL resolves to, what each does in each state of the wait
entry, and the words in which COLLECT reports an outcome. -/

namespace Sys2Proof.Machine

/-! ## The ticket (R60, R84) -/

theorem ticketOfWord_of_eq {p : Word} {w : WaitId} {g : BitVec 4} (hw : w.val = field p 0 4)
    (hg : g.toNat = field p 4 4) : ticketOfWord p = (w, g) :=
  Prod.ext (Fin.ext hw.symm) (BitVec.eq_of_toNat_eq hg.symm)

section
variable {s : State} {n : AgentId} {w : WaitId} {g : BitVec 4}

/-- A FREE entry and one of another generation are both STALE. -/
theorem State.resolveTicket_of_stale (h : (s.wait w).body = .free ∨ (s.wait w).gen ≠ g) :
    s.resolveTicket n (w, g) = .error .stale := by
  by_cases free : (s.wait w).body.isFree = true
  · exact if_pos free
  · have gen : (s.wait w).gen ≠ g := h.resolve_left fun e => free ((WaitBody.isFree_iff _).mpr e)
    exact (if_neg free).trans (if_pos gen)

/-- An entry that is not FREE, under its generation, is refused to every agent but its Requester. -/
theorem State.resolveTicket_of_present (present : (s.wait w).body ≠ .free) (gen : (s.wait w).gen = g) :
    s.resolveTicket n (w, g) =
      if (s.wait w).body.requester? ≠ some n then .error .notOwner else .ok (s.wait w).body := by
  have notFree : ¬(s.wait w).body.isFree = true := fun e => present ((WaitBody.isFree_iff _).mp e)
  exact (if_neg notFree).trans (if_neg fun other => other gen)

theorem State.resolveTicket_of_waiting {q : Request} {d : Option Nat}
    (h : s.wait w = { gen := g, body := .waiting n q d }) :
    s.resolveTicket n (w, g) = .ok (.waiting n q d) := by
  rw [State.resolveTicket_of_present (by simp [h]) (by rw [h]), h]
  exact if_neg fun other => other rfl

theorem State.resolveTicket_of_resolved {q : Request} {o : WaitOutcome}
    (h : s.wait w = { gen := g, body := .resolved n q o }) :
    s.resolveTicket n (w, g) = .ok (.resolved n q o) := by
  rw [State.resolveTicket_of_present (by simp [h]) (by rw [h]), h]
  exact if_neg fun other => other rfl

/-! ## Freeing a wait entry (R95, R96) -/

theorem State.freeWait_of_gen (gen : (s.wait w).gen = g) :
    s.freeWait w = (s.setWait w { gen := g, body := .free }).setWaitOrder (s.waits.order.filter (· != w)) := by
  rw [State.freeWait, gen]

/-- The waiting order stands where it does not name the entry. -/
theorem State.freeWait_of_notInOrder (gen : (s.wait w).gen = g) (out : w ∉ s.waits.order) :
    s.freeWait w = s.setWait w { gen := g, body := .free } := by
  have keeps : s.waits.order.filter (· != w) = s.waits.order :=
    List.filter_eq_self.mpr fun v mem => bne_iff_ne.mpr fun e => out (e ▸ mem)
  rw [State.freeWait_of_gen gen, keeps]
  rfl

/-! ## The completions (R84, R95, R96) -/

variable {ps : Vector Word 8}

theorem State.collect_of_error {st : StatusCode} (t : ticketOfWord ps[0] = (w, g))
    (h : s.resolveTicket n (w, g) = .error st) : State.collect n ps s = (s, { status := st }) := by
  simp only [State.collect, t, h, refuse]

theorem State.cancel_of_error {st : StatusCode} (t : ticketOfWord ps[0] = (w, g))
    (h : s.resolveTicket n (w, g) = .error st) : State.cancel n ps s = (s, { status := st }) := by
  simp only [State.cancel, t, h, refuse]

theorem State.collect_of_waiting {q : Request} {d : Option Nat} (t : ticketOfWord ps[0] = (w, g))
    (h : s.wait w = { gen := g, body := .waiting n q d }) :
    State.collect n ps s = (s, { status := .stillWaiting }) := by
  simp only [State.collect, t, State.resolveTicket_of_waiting h, refuse]

theorem State.cancel_of_waiting {q : Request} {d : Option Nat} (t : ticketOfWord ps[0] = (w, g))
    (h : s.wait w = { gen := g, body := .waiting n q d }) :
    State.cancel n ps s = ((s.freeWait w).setReexamine true, { status := .ok }) := by
  simp only [State.cancel, t, State.resolveTicket_of_waiting h, granted]

theorem State.collect_of_resolved {q : Request} {o : WaitOutcome} (t : ticketOfWord ps[0] = (w, g))
    (h : s.wait w = { gen := g, body := .resolved n q o }) :
    State.collect n ps s = (s.freeWait w, o.reply) := by
  simp only [State.collect, t, State.resolveTicket_of_resolved h]

theorem State.cancel_of_resolved {q : Request} {o : WaitOutcome} (t : ticketOfWord ps[0] = (w, g))
    (h : s.wait w = { gen := g, body := .resolved n q o }) :
    State.cancel n ps s = (s, { status := .retired }) := by
  simp only [State.cancel, t, State.resolveTicket_of_resolved h, refuse]

/-- What COLLECT's run leaves and answers is what its completion leaves and its window holds (R52). -/
theorem exec_collect_of_result {t : State} {r : Reply} (run : s.Runs n .collect ps)
    (h : State.collect n ps s = (t, r)) (port : t.port n = s.port n) :
    exec .collect s = .next (t.answered n 0x07 r) :=
  congrArg Host.Outcome.next (State.complete_answered s run h port)

/-- The same of CANCEL. -/
theorem exec_cancel_of_result {t : State} {r : Reply} (run : s.Runs n .cancel ps)
    (h : State.cancel n ps s = (t, r)) (port : t.port n = s.port n) :
    exec .cancel s = .next (t.answered n 0x08 r) :=
  congrArg Host.Outcome.next (State.complete_answered s run h port)

/-- A ticket that does not resolve: either command changes nothing and answers the status of R84. -/
theorem exec_of_ticketError {c : Command} {st : StatusCode} (run : s.Runs n c ps) (hc : c = .collect ∨ c = .cancel)
    (t : ticketOfWord ps[0] = (w, g)) (h : s.resolveTicket n (w, g) = .error st) :
    exec c.instr s = .next (s.answered n c.code { status := st }) := by
  rcases hc with rfl | rfl
  · exact exec_collect_of_result run (State.collect_of_error t h) rfl
  · exact exec_cancel_of_result run (State.cancel_of_error t h) rfl

end

/-! ## The outcome in the result words (R60, R95) -/

theorem WaitOutcome.reply_eq (o : WaitOutcome) : ∃ r0 r1 : Word,
    o.reply = { status := .ok, r0 := r0, r1 := r1 } ∧
      (∀ k, o = .granted k → r0 = 1 ∧ r1.toNat = k.entry.val + 2 ^ 8 * k.gen.toNat) ∧
      (o = .timedOut → r0 = 2 ∧ r1 = 0) ∧ (o = .guarded → r0 = 3 ∧ r1 = 0) ∧
      (o = .denied → r0 = 4 ∧ r1 = 0) := by
  cases o with
  | granted h =>
    refine ⟨1, h.word, rfl, fun k e => ?_, nofun, nofun, nofun⟩
    cases e
    exact ⟨rfl, h.word_toNat⟩
  | timedOut => exact ⟨2, 0, rfl, nofun, fun _ => ⟨rfl, rfl⟩, nofun, nofun⟩
  | guarded => exact ⟨3, 0, rfl, nofun, nofun, fun _ => ⟨rfl, rfl⟩, nofun⟩
  | denied => exact ⟨4, 0, rfl, nofun, nofun, nofun, fun _ => ⟨rfl, rfl⟩⟩

/-- Settles O40: R84's checks on the ticket come first; a ticket that passes them names a WAITING or a RESOLVED entry of
the agent, and each command frees the one and refuses the other. -/
theorem collectAndCancel : Obligations.CollectAndCancel := by
  intro s n c ps w g e run hc hw hg he
  subst he
  have t : ticketOfWord ps[0] = (w, g) := ticketOfWord_of_eq hw hg
  refine ⟨fun stale => ?stale, fun present gen other => ?notOwner, fun q d h => ⟨?_, ?_⟩,
    fun q o h out => ⟨?_, ?_⟩⟩
  case stale => exact exec_of_ticketError run hc t (State.resolveTicket_of_stale stale)
  case notOwner =>
    exact exec_of_ticketError run hc t ((State.resolveTicket_of_present present gen).trans (if_pos other))
  all_goals
    have gen : (s.wait w).gen = g := by rw [h]
    rintro rfl
  · exact exec_collect_of_result run (State.collect_of_waiting t h) rfl
  · rw [← State.freeWait_of_gen gen]
    exact exec_cancel_of_result run (State.cancel_of_waiting t h) rfl
  · exact exec_cancel_of_result run (State.cancel_of_resolved t h) rfl
  · obtain ⟨r0, r1, reply, words⟩ := o.reply_eq
    rw [← State.freeWait_of_notInOrder gen out]
    exact ⟨r0, r1, exec_collect_of_result run (reply ▸ State.collect_of_resolved t h) rfl, words⟩

end Sys2Proof.Machine
end

section
/-! SUPPORT. What each command leaves as it stands: the parts of the state that the laws look at, the parts that each
shared operation can change, and the footprint of every command. -/

namespace Sys2Proof.Machine

/-! ## Aspects of the state -/

/-- A part of the state that a law looks at. -/
inductive Aspect where
  /-- The lease entries. -/
  | entries
  /-- The phase in force and the sequencer claims on their way. -/
  | claims
  /-- The wait entries and the waiting order. -/
  | waiting
  /-- The job in hand and the job list. -/
  | jobs
  /-- The state of each window and the AGRSTn line of its port. -/
  | windows
  /-- The markers of the ports. -/
  | markers
  /-- Each profile's enable and quotas. -/
  | quotas
  /-- Each profile's interrupt status and fault latch. -/
  | causes
  | guards
  | scrub
  | timebase
  /-- The Phase Sequencer, but for the ticks it has not yet taken. -/
  | phases
  | memPort
  /-- The RESET input. -/
  | reset
  | sram
  deriving DecidableEq

/-- The aspect stands in t as it stands in s. -/
def Aspect.same (s t : State) : Aspect → Prop
  | .entries => t.leases.entries = s.leases.entries
  | .claims => t.leases.inForce = s.leases.inForce ∧ t.leases.sequencerClaims = s.leases.sequencerClaims
  | .waiting => t.waits.entries = s.waits.entries ∧ t.waits.order = s.waits.order
  | .jobs => t.manager.job = s.manager.job ∧ t.manager.list = s.manager.list
  | .windows => ∀ n, (t.port n).window = (s.port n).window ∧ (t.port n).agrst = (s.port n).agrst
  | .markers => ∀ n, (t.port n).marker = (s.port n).marker
  | .quotas => ∀ n, (t.profile n).enabled = (s.profile n).enabled ∧
      (t.profile n).leaseQuota = (s.profile n).leaseQuota ∧ (t.profile n).pageQuota = (s.profile n).pageQuota
  | .causes => ∀ n, (t.profile n).status = (s.profile n).status ∧ (t.profile n).latch = (s.profile n).latch
  | .guards => t.guards = s.guards
  | .scrub => t.scrub = s.scrub
  | .timebase => t.timebase = s.timebase
  | .phases => t.phases.current = s.phases.current ∧ t.phases.ticksLeft = s.phases.ticksLeft ∧
      t.phases.active = s.phases.active ∧ t.phases.pending = s.phases.pending
  | .memPort => t.memPort = s.memPort
  | .reset => t.resetAsserted = s.resetAsserted
  | .sram => t.sram = s.sram

theorem Aspect.same_refl (a : Aspect) (s : State) : a.same s s := by
  cases a <;> simp [Aspect.same]

theorem Aspect.same_trans {a : Aspect} {s t u : State} (h : a.same s t) (k : a.same t u) : a.same s u := by
  cases a <;> simp_all [Aspect.same]

/-- From s to t no aspect outside L has changed. -/
def State.Touches (s : State) (L : List Aspect) (t : State) : Prop := ∀ a, a ∉ L → a.same s t

theorem State.Touches.refl (s : State) (L : List Aspect) : s.Touches L s := fun a _ => a.same_refl s

theorem State.Touches.trans {s t u : State} {L : List Aspect} (h : s.Touches L t) (k : t.Touches L u) :
    s.Touches L u := fun a n => Aspect.same_trans (h a n) (k a n)

theorem State.Touches.mono {s t : State} {L M : List Aspect} (h : s.Touches L t) (sub : L ⊆ M) : s.Touches M t :=
  fun a n => h a fun mem => n (sub mem)

/-- What each application leaves, the fold leaves. -/
theorem foldl_touches {β : Type} {f : State → β → State} {L : List Aspect} (h : ∀ (s : State) x, s.Touches L (f s x))
    (l : List β) (s : State) : s.Touches L (l.foldl f s) :=
  foldl_invariant (P := fun t => s.Touches L t) (fun t x ht => ht.trans (h t x)) l s (.refl s L)

theorem State.forEntries_touches {f : State → EntryId → State} {L : List Aspect} (h : ∀ (s : State) i, s.Touches L (f s i))
    (s : State) : s.Touches L (s.forEntries f) := foldl_touches h _ s

/-! ## The named updates -/

section
variable (s : State)

theorem State.setEntry_touches (i : EntryId) (e : Entry) : s.Touches [.entries] (s.setEntry i e) := by
  intro a h; cases a <;> simp_all [Aspect.same]

theorem State.setWait_touches (w : WaitId) (e : WaitEntry) : s.Touches [.waiting] (s.setWait w e) := by
  intro a h; cases a <;> simp_all [Aspect.same]

theorem State.setWaitOrder_touches (l : List WaitId) : s.Touches [.waiting] (s.setWaitOrder l) := by
  intro a h; cases a <;> simp_all [Aspect.same]

theorem State.setJob_touches (j : Option Job) : s.Touches [.jobs] (s.setJob j) := by
  intro a h; cases a <;> simp_all [Aspect.same]

theorem State.setJobList_touches (l : List AgentId) : s.Touches [.jobs] (s.setJobList l) := by
  intro a h; cases a <;> simp_all [Aspect.same]

/-- No law looks at the re-examination flag. -/
theorem State.setReexamine_touches (b : Bool) : s.Touches [] (s.setReexamine b) := by
  intro a h; cases a <;> simp_all [Aspect.same]

theorem State.setScrub_touches (x : ScrubEngine) : s.Touches [.scrub] (s.setScrub x) := by
  intro a h; cases a <;> simp_all [Aspect.same]

theorem State.setMemPort_touches (x : MemoryPort) : s.Touches [.memPort] (s.setMemPort x) := by
  intro a h; cases a <;> simp_all [Aspect.same]

theorem State.setPhases_touches (x : PhaseSequencer) : s.Touches [.phases] (s.setPhases x) := by
  intro a h; cases a <;> simp_all [Aspect.same]

theorem State.setTimebase_touches (x : Timebase) : s.Touches [.timebase] (s.setTimebase x) := by
  intro a h; cases a <;> simp_all [Aspect.same]

theorem State.setGuard_touches (g : GuardId) (x : GuardSpan) : s.Touches [.guards] (s.setGuard g x) := by
  intro a h; cases a <;> simp_all [Aspect.same]

theorem State.setSequencerClaims_touches (l : List SequencerClaim) : s.Touches [.claims] (s.setSequencerClaims l) := by
  intro a h; cases a <;> simp_all [Aspect.same]


/-- A port with the same window state, line and marker. -/
theorem State.setPort_touches_nothing {n : AgentId} {p : Port} (window : p.window = (s.port n).window)
    (line : p.agrst = (s.port n).agrst) (marker : p.marker = (s.port n).marker) : s.Touches [] (s.setPort n p) := by
  intro a _
  cases a <;> simp only [Aspect.same, State.setPort_leases, State.setPort_waits, State.setPort_manager,
    State.setPort_profile, State.setPort_guards, State.setPort_scrub, State.setPort_timebase, State.setPort_phases,
    State.setPort_memPort, State.setPort_resetAsserted, State.setPort_sram, State.setPort_port, and_self, implies_true]
  all_goals
    intro m
    split
    next h => subst h; simp only [window, line, marker, and_self]
    next => simp only [and_self]

/-- A port with the same marker. -/
theorem State.setPort_touches_windows {n : AgentId} {p : Port} (marker : p.marker = (s.port n).marker) :
    s.Touches [.windows] (s.setPort n p) := by
  intro a h
  cases a <;> simp only [Aspect.same, State.setPort_leases, State.setPort_waits, State.setPort_manager,
    State.setPort_profile, State.setPort_guards, State.setPort_scrub, State.setPort_timebase, State.setPort_phases,
    State.setPort_memPort, State.setPort_resetAsserted, State.setPort_sram, State.setPort_port, and_self, implies_true]
  case windows => exact absurd (List.mem_singleton.mpr rfl) h
  case markers =>
    intro m
    split
    next e => subst e; exact marker
    next => rfl

/-- A port with the same window state and line. -/
theorem State.setPort_touches_markers {n : AgentId} {p : Port} (window : p.window = (s.port n).window)
    (line : p.agrst = (s.port n).agrst) : s.Touches [.markers] (s.setPort n p) := by
  intro a h
  cases a <;> simp only [Aspect.same, State.setPort_leases, State.setPort_waits, State.setPort_manager,
    State.setPort_profile, State.setPort_guards, State.setPort_scrub, State.setPort_timebase, State.setPort_phases,
    State.setPort_memPort, State.setPort_resetAsserted, State.setPort_sram, State.setPort_port, and_self, implies_true]
  case markers => exact absurd (List.mem_singleton.mpr rfl) h
  case windows =>
    intro m
    split
    next e => subst e; exact ⟨window, line⟩
    next => exact ⟨rfl, rfl⟩

theorem State.setPort_touches (n : AgentId) (p : Port) : s.Touches [.windows, .markers] (s.setPort n p) := by
  intro a h; cases a <;> simp_all [Aspect.same]

/-- A profile with the same enable and quotas. -/
theorem State.setProfile_touches_causes {n : AgentId} {p : Profile} (enabled : p.enabled = (s.profile n).enabled)
    (leases : p.leaseQuota = (s.profile n).leaseQuota) (pages : p.pageQuota = (s.profile n).pageQuota) :
    s.Touches [.causes] (s.setProfile n p) := by
  intro a h
  cases a <;> simp only [Aspect.same, State.setProfile_leases, State.setProfile_waits, State.setProfile_manager,
    State.setProfile_port, State.setProfile_guards, State.setProfile_scrub, State.setProfile_timebase,
    State.setProfile_phases, State.setProfile_memPort, State.setProfile_resetAsserted, State.setProfile_sram,
    State.setProfile_profile, and_self, implies_true]
  case causes => exact absurd (List.mem_singleton.mpr rfl) h
  case quotas =>
    intro m
    split
    next e => subst e; exact ⟨enabled, leases, pages⟩
    next => exact ⟨rfl, rfl, rfl⟩

/-- A profile with the same enable, quotas, status and latch. -/
theorem State.setProfile_touches_nothing {n : AgentId} {p : Profile} (enabled : p.enabled = (s.profile n).enabled)
    (leases : p.leaseQuota = (s.profile n).leaseQuota) (pages : p.pageQuota = (s.profile n).pageQuota)
    (status : p.status = (s.profile n).status) (latch : p.latch = (s.profile n).latch) :
    s.Touches [] (s.setProfile n p) := by
  intro a h
  by_cases causes : a = .causes
  · subst causes
    intro m
    simp only [State.setProfile_profile]
    split
    next e => subst e; exact ⟨status, latch⟩
    next => exact ⟨rfl, rfl⟩
  · exact s.setProfile_touches_causes enabled leases pages a (mt List.mem_singleton.mp causes)

/-- A profile with the same status and latch. -/
theorem State.setProfile_touches_quotas {n : AgentId} {p : Profile} (status : p.status = (s.profile n).status)
    (latch : p.latch = (s.profile n).latch) : s.Touches [.quotas] (s.setProfile n p) := by
  intro a h
  cases a <;> simp only [Aspect.same, State.setProfile_leases, State.setProfile_waits, State.setProfile_manager,
    State.setProfile_port, State.setProfile_guards, State.setProfile_scrub, State.setProfile_timebase,
    State.setProfile_phases, State.setProfile_memPort, State.setProfile_resetAsserted, State.setProfile_sram,
    State.setProfile_profile, and_self, implies_true]
  case quotas => exact absurd (List.mem_singleton.mpr rfl) h
  case causes =>
    intro m
    split
    next e => subst e; exact ⟨status, latch⟩
    next => exact ⟨rfl, rfl⟩

theorem State.raise_touches (c : Cause) (n : AgentId) : s.Touches [.causes] (s.raise c n) :=
  s.setProfile_touches_causes rfl rfl rfl

theorem State.store_touches (l : List Host.Cell) : s.Touches [.sram] (s.store l) := by
  intro a h; cases a <;> simp_all [Aspect.same]

/-! ## The shared operations -/

theorem State.leaveWord_touches (x : BitVec 22) : s.Touches [.sram] (s.leaveWord x) := by
  intro a h
  cases a with
  | sram => exact absurd (List.mem_singleton.mpr rfl) h
  | claims => exact ⟨rfl, rfl⟩
  | waiting => exact ⟨rfl, rfl⟩
  | jobs => exact ⟨rfl, rfl⟩
  | windows => exact fun _ => ⟨rfl, rfl⟩
  | markers => exact fun _ => rfl
  | quotas => exact fun _ => ⟨rfl, rfl, rfl⟩
  | causes => exact fun _ => ⟨rfl, rfl⟩
  | phases => exact ⟨rfl, rfl, rfl, rfl⟩
  | _ => rfl

theorem State.takeWord_touches (l : WordLines) : s.Touches [.sram] (s.takeWord l) := by
  unfold State.takeWord
  split
  · exact s.store_touches _
  · exact .refl s _

theorem State.requestChunk_touches : s.Touches [.memPort] s.requestChunk := by
  unfold State.requestChunk
  split
  · exact .refl s _
  · split
    · exact .refl s _
    · exact s.setMemPort_touches _

theorem State.joinQueue_touches (i : EntryId) : s.Touches [.scrub, .memPort] (s.joinQueue i) := by
  have set : ∀ x, s.Touches [.scrub, .memPort] (s.setScrub x) := fun x => (s.setScrub_touches x).mono (by decide)
  by_cases idle : s.scrub.mode = .idle
  · rw [s.joinQueue_of_idle i idle]
    exact (set _).trans ((State.requestChunk_touches _).mono (by decide))
  · rw [s.joinQueue_of_busy i idle]
    exact set _

theorem State.moveEngine_touches : s.Touches [.scrub, .memPort] s.moveEngine := by
  have set : ∀ x, s.Touches [.scrub, .memPort] (s.setScrub x) := fun x => (s.setScrub_touches x).mono (by decide)
  unfold State.moveEngine
  dsimp only
  split
  · split
    · exact set _
    · split
      · exact set _
      · exact s.requestChunk_touches.mono (by decide)
  · exact set _
  all_goals exact .refl s _

theorem State.freeEntry_touches (i : EntryId) : s.Touches [.entries] (s.freeEntry i) :=
  (s.setEntry_touches i _).trans ((State.setReexamine_touches _ true).mono (by decide))

theorem State.drained_touches (i : EntryId) (l : Lease) : s.Touches [.entries, .scrub, .memPort] (s.drained i l) := by
  unfold State.drained
  split
  · exact (s.freeEntry_touches i).mono (by decide)
  · exact (s.joinQueue_touches i).mono (by decide)

theorem State.retire_touches (i : EntryId) : s.Touches [.entries, .scrub, .memPort] (s.retire i) := by
  have set : ∀ e, s.Touches [.entries, .scrub, .memPort] (s.setEntry i e) := fun e =>
    (s.setEntry_touches i e).mono (by decide)
  unfold State.retire
  split
  · dsimp only
    split
    · exact set _
    · exact (set _).trans (State.drained_touches _ i _)
  all_goals exact .refl s _

theorem State.drainEntry_touches (n : AgentId) (i : EntryId) :
    s.Touches [.entries, .scrub, .memPort] (State.drainEntry n s i) := by
  unfold State.drainEntry
  split
  · split
    · exact ((s.setEntry_touches i _).mono (by decide)).trans (State.drained_touches _ i _)
    · exact .refl s _
  all_goals exact .refl s _

theorem State.setActive_touches (i : EntryId) (v : ActiveView) : s.Touches [.entries] (s.setActive i v) :=
  s.setEntry_touches i _

theorem State.resolveWait_touches (w : WaitId) (o : WaitOutcome) :
    s.Touches [.waiting, .causes] (s.resolveWait w o) := by
  unfold State.resolveWait
  split
  · exact (((s.setWait_touches w _).trans (State.setWaitOrder_touches _ _)).mono (by decide)).trans
      ((State.raise_touches _ .grant _).mono (by decide))
  all_goals exact .refl s _

theorem State.freeWait_touches (w : WaitId) : s.Touches [.waiting] (s.freeWait w) :=
  (s.setWait_touches w _).trans (State.setWaitOrder_touches _ _)

theorem State.endPassIfDone_touches : s.Touches [.jobs] s.endPassIfDone := by
  unfold State.endPassIfDone
  split
  · split
    · exact .refl s _
    · exact s.setJob_touches none
  all_goals exact .refl s _

theorem State.produceTick_touches : s.Touches [.timebase] s.produceTick := by
  intro a h
  cases a with
  | timebase => exact absurd (List.mem_singleton.mpr rfl) h
  | claims => exact ⟨rfl, rfl⟩
  | waiting => exact ⟨rfl, rfl⟩
  | jobs => exact ⟨rfl, rfl⟩
  | windows => exact fun _ => ⟨rfl, rfl⟩
  | markers => exact fun _ => rfl
  | quotas => exact fun _ => ⟨rfl, rfl, rfl⟩
  | causes => exact fun _ => ⟨rfl, rfl⟩
  | phases => exact ⟨rfl, rfl, rfl, rfl⟩
  | _ => rfl

theorem State.takeSequencerClaim_touches (c : SequencerClaim) :
    s.Touches [.entries, .claims] (s.takeSequencerClaim c) := by
  have inForce : ∀ (t : State) p,
      t.Touches [.entries, .claims] { t with leases := { t.leases with inForce := p } } := by
    intro t p a h
    cases a <;> simp_all [Aspect.same, State.port, State.profile]
  cases c with
  | opening p =>
    refine .trans ?_ (inForce _ _)
    exact State.forEntries_touches (fun u i => (u.setEntry_touches i _).mono (by decide)) s
  | none => exact inForce s none

theorem State.takeAllSequencerClaims_touches (c : SequencerClaim) :
    s.Touches [.entries, .claims] (s.takeAllSequencerClaims c) :=
  .trans ((s.setSequencerClaims_touches []).mono (by decide))
    (foldl_touches State.takeSequencerClaim_touches _ _)

theorem State.respond_touches (n : AgentId) (code : BitVec 8) (r : Reply) :
    s.Touches [.windows, .causes] (s.respond n code r) := by
  by_cases h : (s.port n).window = .executing
  · rw [s.respond_executing code r h]
    have answered : ∀ p : Port, p.marker = (s.port n).marker → s.Touches [.windows, .causes] (s.setPort n p) :=
      fun p h => (s.setPort_touches_windows h).mono (by decide)
    refine (answered _ ?_).trans ((State.raise_touches _ .done n).mono (by decide))
    rfl
  · rw [s.respond_discarded code r h]
    exact .refl s _

theorem State.detachEvent_touches (n : AgentId) : s.Touches [.windows, .markers, .jobs] (s.detachEvent n) := by
  by_cases h : (s.port n).window = .detaching
  · rw [s.detachEvent_of_detaching h]
    exact .refl s _
  · rw [s.detachEvent_of_attached h]
    have attached : ∀ p, s.Touches [.windows, .markers, .jobs] (s.setPort n p) := fun p =>
      (s.setPort_touches n p).mono (by decide)
    exact (attached _).trans ((State.setJobList_touches _ _).mono (by decide))

theorem State.emptyStatus_touches (n : AgentId) : s.Touches [.causes] (s.emptyStatus n) :=
  s.setProfile_touches_causes rfl rfl rfl

theorem State.takeReport_touches (n : AgentId) (r : FaultReport) : s.Touches [.causes] (s.takeReport n r) :=
  s.setProfile_touches_causes rfl rfl rfl

theorem State.clearCauses_touches (n : AgentId) (v : Word) : s.Touches [.causes] (s.clearCauses n v) :=
  s.setProfile_touches_causes rfl rfl rfl

end

end Sys2Proof.Machine
end

section
/-! SUPPORT. The footprint of every command, and of one clock: the aspects of the state that it can change. -/

namespace Sys2Proof.Machine

/-! ## Accesses and words -/

section
variable (s : State)

theorem State.reloadCovering_touches (n : AgentId) (a : Addr) : s.Touches [.entries] (s.reloadCovering n a) := by
  unfold State.reloadCovering
  split
  · split
    · exact s.setActive_touches _ _
    all_goals exact .refl s _
  · exact .refl s _

theorem State.answerMem_touches (n : AgentId) (b : BusAnswer) : s.Touches [] (s.answerMem n b) :=
  s.setPort_touches_nothing rfl rfl rfl

theorem State.handReport_touches (n : AgentId) (r : FaultReport) : s.Touches [] (s.handReport n r) :=
  s.setPort_touches_nothing rfl rfl rfl

theorem State.setHeld_touches (n : AgentId) (h : Option MemCycle) : s.Touches [] (s.setHeld n h) :=
  s.setPort_touches_nothing rfl rfl rfl

theorem State.forward_touches (n : AgentId) (a : Access) :
    s.Touches [.entries, .markers, .memPort] (s.forward n a) := by
  have marked : ∀ (t : State) (p : Port), p.window = (t.port n).window → p.agrst = (t.port n).agrst →
      t.Touches [.entries, .markers, .memPort] (t.setPort n p) := fun t p window line =>
    (t.setPort_touches_markers window line).mono (by decide)
  refine ((s.reloadCovering_touches n a.info.addr).mono (by decide)).trans ?_
  refine (marked _ _ ?_ ?_).trans ((State.setMemPort_touches _ _).mono (by decide)) <;> rfl

theorem State.decodeAccess_touches (n : AgentId) (c : MemCycle) :
    s.Touches [.entries, .markers, .memPort] (s.decodeAccess n c) := by
  unfold State.decodeAccess
  split
  · exact (s.answerMem_touches n _).mono (by decide)
  · split
    · exact (s.answerMem_touches n _).mono (by decide)
    · split
      · exact ((s.answerMem_touches n _).trans (State.handReport_touches _ n _)).mono (by decide)
      · exact s.forward_touches n _

theorem State.completeAccess_touches (n : AgentId) (b : BusAnswer) (r : List FaultReport) :
    s.Touches [.entries, .markers, .memPort, .scrub] (s.completeAccess n b r) := by
  have ended : ∀ (p : Port) (m : MemoryPort), p.window = (s.port n).window → p.agrst = (s.port n).agrst →
      s.Touches [.entries, .markers, .memPort, .scrub] ((s.setPort n p).setMemPort m) := fun p m window line =>
    ((s.setPort_touches_markers window line).mono (by decide)).trans
      ((State.setMemPort_touches _ m).mono (by decide))
  refine (ended _ _ ?_ ?_).trans
    (State.forEntries_touches (fun u i => (u.drainEntry_touches n i).mono (by decide)) _) <;> rfl

theorem State.chunkDone_touches : s.Touches [.entries, .memPort, .scrub] s.chunkDone := by
  have moved : ∀ (t : State) x, t.Touches [.entries, .memPort, .scrub] (t.setScrub x).moveEngine := fun t x =>
    ((t.setScrub_touches x).mono (by decide)).trans ((State.moveEngine_touches _).mono (by decide))
  unfold State.chunkDone
  dsimp only
  split
  · exact moved s _
  · split
    · split
      · exact ((s.freeEntry_touches _).mono (by decide)).trans (moved _ _)
      · exact moved s _
    · exact moved s _

theorem State.chunkFailed_touches : s.Touches [.entries, .memPort, .scrub, .causes] s.chunkFailed := by
  have moved : ∀ t : State, t.Touches [.entries, .memPort, .scrub, .causes] t.moveEngine := fun t =>
    t.moveEngine_touches.mono (by decide)
  unfold State.chunkFailed
  split
  · exact moved s
  · split
    · refine .trans ?_ (moved _)
      refine .trans ?_ ((State.raise_touches _ .scrubFail 0).mono (by decide))
      exact ((s.setEntry_touches _ _).mono (by decide)).trans ((State.setScrub_touches _ _).mono (by decide))
    · exact moved s

theorem State.wordDone_touches : s.Touches [.entries, .markers, .memPort, .scrub, .sram] s.wordDone := by
  have completed : ∀ (t : State) n b r,
      t.Touches [.entries, .markers, .memPort, .scrub, .sram] (t.completeAccess n b r) := fun t n b r =>
    (t.completeAccess_touches n b r).mono (by decide)
  have taken : ∀ l, s.Touches [.entries, .markers, .memPort, .scrub, .sram] (s.takeWord l) := fun l =>
    (s.takeWord_touches l).mono (by decide)
  unfold State.wordDone
  split
  · exact .refl s _
  · unfold State.accessDone
    split
    · exact (taken _).trans (completed _ _ _ _)
    all_goals exact completed s _ _ _
  · dsimp only
    split
    · exact (taken _).trans ((State.setMemPort_touches _ _).mono (by decide))
    · exact ((taken _).trans ((State.setMemPort_touches _ _).mono (by decide))).trans
        ((State.chunkDone_touches _).mono (by decide))

theorem State.wordFailed_touches : s.Touches [.entries, .markers, .memPort, .scrub, .sram, .causes] s.wordFailed := by
  have left : ∀ x, s.Touches [.entries, .markers, .memPort, .scrub, .sram, .causes] (s.leaveWord x) := fun x =>
    (s.leaveWord_touches x).mono (by decide)
  unfold State.wordFailed
  split
  · exact .refl s _
  · exact (left _).trans ((State.completeAccess_touches _ _ _ _).mono (by decide))
  · exact ((left _).trans ((State.setMemPort_touches _ _).mono (by decide))).trans
      ((State.chunkFailed_touches _).mono (by decide))

/-! ## The Lease Manager's own claims -/

theorem State.examine_touches (w : WaitId) : s.Touches [.entries, .waiting, .causes] (s.examine w) := by
  have resolved : ∀ (t : State) o, t.Touches [.entries, .waiting, .causes] (t.resolveWait w o) := fun t o =>
    (t.resolveWait_touches w o).mono (by decide)
  unfold State.examine
  split
  · split
    · exact resolved s _
    · split
      · exact resolved s _
      · split
        · split
          · exact ((s.setEntry_touches _ _).mono (by decide)).trans (resolved _ _)
          · exact .refl s _
        · exact .refl s _
  all_goals exact .refl s _

theorem State.teardown_touches (n : AgentId) :
    s.Touches [.entries, .scrub, .memPort, .waiting, .windows, .causes] (s.teardown n) := by
  have entry : ∀ (t : State) i,
      t.Touches [.entries, .scrub, .memPort, .waiting, .windows, .causes] (State.teardownEntry n t i) := by
    intro t i
    unfold State.teardownEntry
    split
    · exact (t.retire_touches i).mono (by decide)
    · exact .refl t _
  have offer : ∀ (t : State) i,
      t.Touches [.entries, .scrub, .memPort, .waiting, .windows, .causes] (State.teardownOffer n t i) := by
    intro t i
    unfold State.teardownOffer
    split
    · split
      · exact ((t.setActive_touches i _).mono (by decide)).trans ((State.raise_touches _ .offerOut _).mono (by decide))
      · exact .refl t _
    all_goals exact .refl t _
  have wait : ∀ (t : State) w,
      t.Touches [.entries, .scrub, .memPort, .waiting, .windows, .causes] (State.teardownWait n t w) := by
    intro t w
    unfold State.teardownWait
    split
    · exact (t.freeWait_touches w).mono (by decide)
    · exact .refl t _
  have window : ∀ t : State, t.Touches [.windows] (t.teardownWindow n) := fun t => t.setPort_touches_windows rfl
  refine (State.forEntries_touches entry s).trans ?_
  refine (State.forEntries_touches offer _).trans ?_
  refine (foldl_touches wait allWaits _).trans ?_
  refine ((State.emptyStatus_touches _ n).mono (by decide)).trans ?_
  exact ((window _).mono (by decide)).trans ((State.setReexamine_touches _ true).mono (by decide))

theorem State.tickEntry_touches (i : EntryId) : s.Touches [.entries, .scrub, .memPort, .causes] (s.tickEntry i) := by
  have counted : ∀ v, s.Touches [.entries, .scrub, .memPort, .causes] (s.setActive i v) := fun v =>
    (s.setActive_touches i v).mono (by decide)
  have raised : ∀ (t : State) c n, t.Touches [.entries, .scrub, .memPort, .causes] (t.raise c n) := fun t c n =>
    (t.raise_touches c n).mono (by decide)
  unfold State.tickEntry
  split
  · split
    · exact .refl s _
    · dsimp only
      split
      · exact ((counted _).trans ((State.retire_touches _ i).mono (by decide))).trans (raised _ _ _)
      · split
        · exact (counted _).trans (raised _ _ _)
        · exact counted _
  all_goals exact .refl s _

theorem State.leaseTick_touches : s.Touches [.entries, .scrub, .memPort, .causes] s.leaseTick := by
  unfold State.leaseTick
  split
  · exact .refl s _
  · refine .trans (fun a h => ?_) (State.forEntries_touches (fun u i => u.tickEntry_touches i) _)
    cases a <;> simp [Aspect.same, State.port, State.profile]

theorem State.tickWait_touches (w : WaitId) : s.Touches [.waiting, .causes] (s.tickWait w) := by
  unfold State.tickWait
  split
  · split
    · exact s.resolveWait_touches w _
    · exact (s.setWait_touches w _).mono (by decide)
  all_goals exact .refl s _

theorem State.waitTick_touches : s.Touches [.waiting, .causes, .jobs] s.waitTick := by
  unfold State.waitTick
  split
  · exact .refl s _
  · refine .trans ?_ ((State.endPassIfDone_touches _).mono (by decide))
    refine .trans (fun a h => ?_) (foldl_touches (fun u w => (u.tickWait_touches w).mono (by decide)) _ _)
    cases a <;> simp [Aspect.same, State.port, State.profile]

theorem State.phaseTick_touches : s.Touches [.phases, .claims] s.phaseTick := by
  have handed : ∀ (t : State) c, t.Touches [.phases, .claims] (t.handClaim c) := by
    intro t c
    unfold State.handClaim
    split
    · exact (t.setSequencerClaims_touches _).mono (by decide)
    · exact .refl t _
  unfold State.phaseTick
  split
  · exact .refl s _
  · exact ((s.setPhases_touches _).mono (by decide)).trans (handed _ _)

/-! ## The window select -/

theorem State.presentWindow_touches (n : AgentId) (c : WindowCycle) {take : State → State} {L : List Aspect}
    (h : ∀ t : State, t.Touches L (take t)) : s.Touches L (s.presentWindow n c take) := by
  have held : ∀ x, s.Touches L (s.setHeldWindow n x) := fun x =>
    State.Touches.mono (L := []) (s.setPort_touches_nothing rfl rfl rfl) (List.nil_subset L)
  unfold State.presentWindow
  split
  · exact held _
  · exact (held _).trans (h _)

theorem State.answerWindow_touches (n : AgentId) (b : BusAnswer) : s.Touches [] (s.answerWindow n b) :=
  s.setPort_touches_nothing rfl rfl rfl

theorem Port.writeParam_frame (p : Port) (i : ParamId) (v : Word) :
    (p.writeParam i v).window = p.window ∧ (p.writeParam i v).agrst = p.agrst ∧
      (p.writeParam i v).marker = p.marker := by
  unfold Port.writeParam
  split <;> exact ⟨rfl, rfl, rfl⟩

theorem Port.writeCommand_marker (p : Port) (v : Word) : (p.writeCommand v).marker = p.marker := by
  unfold Port.writeCommand
  split <;> rfl

theorem State.writeParam_touches (n : AgentId) (i : ParamId) (v : Word) :
    s.Touches [] (s.setPort n ((s.port n).writeParam i v)) := by
  obtain ⟨window, line, marker⟩ := (s.port n).writeParam_frame i v
  exact s.setPort_touches_nothing window line marker

theorem State.writeCommand_touches (n : AgentId) (v : Word) :
    s.Touches [.windows] (s.setPort n ((s.port n).writeCommand v)) :=
  s.setPort_touches_windows ((s.port n).writeCommand_marker v)

/-- INTEN is no aspect that a law looks at. -/
theorem State.writeEnable_touches (n : AgentId) (v : Word) : s.Touches [] (s.writeEnable n v) :=
  s.setProfile_touches_nothing rfl rfl rfl rfl rfl

theorem State.windowCycle_touches (n : AgentId) (c : WindowCycle) :
    s.Touches [.windows, .causes] (s.windowCycle n c) := by
  have answered : ∀ (t : State) b, t.Touches [.windows, .causes] (t.answerWindow n b) := fun t b =>
    (t.answerWindow_touches n b).mono (by decide)
  have stored : s.Touches [.windows, .causes] (s.windowStore n c.word c.data) := by
    unfold State.windowStore
    split
    · exact (s.writeParam_touches n _ _).mono (by decide)
    · split
      · exact (s.writeCommand_touches n _).mono (by decide)
      · split
        · exact (s.clearCauses_touches n _).mono (by decide)
        · split
          · exact (s.writeEnable_touches n _).mono (by decide)
          · exact .refl s _
  unfold State.windowCycle
  split
  · exact answered s _
  · split
    · exact stored.trans (answered _ _)
    · exact answered s _

/-! ## The lines -/

theorem State.readLine_touches (n : AgentId) : s.Touches [.windows, .markers, .jobs] (s.readLine n) := by
  unfold State.readLine
  split
  · exact s.detachEvent_touches n
  · exact .refl s _

/-! ## The clock -/

theorem State.clockDivider_touches : s.Touches [.timebase] s.clockDivider := by
  unfold State.clockDivider
  split
  · split
    · exact s.setTimebase_touches _
    · exact s.produceTick_touches
  · exact .refl s _

theorem State.clockWord_touches : s.Touches [.entries, .markers, .memPort, .scrub, .sram, .causes] s.clockWord := by
  have counted : ∀ m, s.Touches [.entries, .markers, .memPort, .scrub, .sram, .causes] (s.setMemPort m) := fun m =>
    (s.setMemPort_touches m).mono (by decide)
  unfold State.clockWord
  split
  · exact .refl s _
  · exact counted _
  · split
    · exact counted _
    · exact s.wordFailed_touches

/-- One clock leaves every aspect but the divider's and those of the end of a word. -/
theorem State.clock_touches :
    s.Touches [.timebase, .entries, .markers, .memPort, .scrub, .sram, .causes] s.clock := by
  unfold State.clock
  split
  · exact .refl s _
  · exact (s.clockDivider_touches.mono (by decide)).trans ((State.clockWord_touches _).mono (by decide))

end

/-! ## The completions -/

theorem State.Touches.of_eq {s t : State} (h : t = s) : s.Touches [] t := by
  rw [h]
  exact .refl s []

/-- What the completion of a command changes beside the command's own effect: the job in hand, the window, and the DONE
cause (R52). -/
def completionAspects : List Aspect := [.jobs, .windows, .causes]

theorem State.completeWith_touches (s : State) (c : Command) {L : List Aspect}
    {run : AgentId → Vector Word 8 → State → State × Reply} (h : ∀ n ps, s.Touches L (run n ps s).1) :
    s.Touches (L ++ completionAspects) (s.completeWith c run) := by
  rcases s.completeWith_cases c run with e | ⟨n, ps, -, e⟩
  · rw [e]
    exact .refl s _
  · rw [e]
    have own : s.Touches (L ++ completionAspects) (run n ps s).1 := (h n ps).mono (List.subset_append_left _ _)
    have ended : ∀ t : State, t.Touches (L ++ completionAspects) ((t.setJob none).respond n c.code (run n ps s).2) := by
      intro t
      have freed : t.Touches completionAspects (t.setJob none) := (t.setJob_touches none).mono (by decide)
      refine (freed.trans ?_).mono (List.subset_append_right L completionAspects)
      exact (State.respond_touches _ n c.code _).mono (by decide)
    exact own.trans (ended _)

theorem State.complete_touches (s : State) (c : Command) {L : List Aspect}
    {run : AgentId → Vector Word 8 → State → State × Reply} (h : ∀ n ps, s.Touches L (run n ps s).1) :
    s.Touches (L ++ completionAspects) (s.complete c run) := by
  refine s.completeWith_touches c fun n ps => ?_
  cases s.admission c n with
  | some st => exact .refl s L
  | none => exact h n ps

/-- A check that refuses changes nothing; the rest of the command runs where it passes. -/
theorem State.check_touches {s : State} {check : Prop} [Decidable check] {st : StatusCode} {rest : State × Reply}
    {L : List Aspect} (h : s.Touches L rest.1) : s.Touches L (if check then refuse s st else rest).1 := by
  split
  · exact .refl s L
  · exact h

section
variable (n : AgentId) (ps : Vector Word 8) (s : State)

theorem State.queueOr_touches (q : Request) (st : StatusCode) : s.Touches [.waiting] (s.queueOr n q ps st).1 := by
  unfold State.queueOr
  split
  · split
    · split
      · exact (s.setWait_touches _ _).trans (State.setWaitOrder_touches _ _)
      · exact .refl s _
    · exact .refl s _
  · exact .refl s _

theorem State.acquire_touches : s.Touches [.entries, .waiting] (State.acquire n ps s).1 := by
  unfold State.acquire
  split
  · exact .refl s _
  · refine check_touches (check_touches (check_touches (check_touches (check_touches ?_))))
    split
    · exact (s.queueOr_touches n ps _ _).mono (by decide)
    · split
      · exact (s.queueOr_touches n ps _ _).mono (by decide)
      · exact (s.setEntry_touches _ _).mono (by decide)

theorem State.renew_touches : s.Touches [.entries] (State.renew n ps s).1 := by
  simp only [State.renew]
  split
  · exact .refl s _
  · exact check_touches (check_touches (s.setActive_touches _ _))

theorem State.narrow_touches : s.Touches [.entries] (State.narrow n ps s).1 := by
  simp only [State.narrow]
  split
  · exact .refl s _
  · refine check_touches (check_touches ?_)
    exact (s.setActive_touches _ _).trans ((State.setReexamine_touches _ true).mono (by decide))

theorem State.release_touches : s.Touches [.entries, .scrub, .memPort] (State.release n ps s).1 := by
  simp only [State.release]
  split
  · exact .refl s _
  · exact check_touches (s.retire_touches _)

theorem State.revoke_touches : s.Touches [.entries, .scrub, .memPort, .causes] (State.revoke n ps s).1 := by
  simp only [State.revoke]
  split
  · exact .refl s _
  · exact ((s.retire_touches _).mono (by decide)).trans ((State.raise_touches _ .revoked _).mono (by decide))

theorem State.offer_touches : s.Touches [.entries, .causes] (State.offer n ps s).1 := by
  simp only [State.offer]
  split
  · exact .refl s _
  · refine check_touches ?_
    split
    · exact .refl s _
    · refine check_touches (check_touches ?_)
      exact ((s.setActive_touches _ _).mono (by decide)).trans ((State.raise_touches _ .offerIn _).mono (by decide))

theorem State.accept_touches : s.Touches [.entries, .causes] (State.accept n ps s).1 := by
  simp only [State.accept]
  split
  · exact .refl s _
  · refine check_touches (check_touches (check_touches (check_touches ?_)))
    refine .trans ?_ ((State.setReexamine_touches _ true).mono (by decide))
    exact ((s.setActive_touches _ _).mono (by decide)).trans ((State.raise_touches _ .offerOut _).mono (by decide))

theorem State.decline_touches : s.Touches [.entries, .causes] (State.decline n ps s).1 := by
  simp only [State.decline]
  split
  · exact .refl s _
  · refine check_touches ?_
    exact ((s.setActive_touches _ _).mono (by decide)).trans ((State.raise_touches _ .offerOut _).mono (by decide))

theorem State.collect_touches : s.Touches [.waiting] (State.collect n ps s).1 := by
  simp only [State.collect]
  split
  · exact .refl s _
  · exact s.freeWait_touches _
  all_goals exact .refl s _

theorem State.cancel_touches : s.Touches [.waiting] (State.cancel n ps s).1 := by
  simp only [State.cancel]
  split
  · exact .refl s _
  · exact (s.freeWait_touches _).trans ((State.setReexamine_touches _ true).mono (by decide))
  all_goals exact .refl s _

theorem State.readFault_touches : s.Touches [.causes] (State.readFault n ps s).1 :=
  s.setProfile_touches_causes rfl rfl rfl

theorem State.detach_touches : s.Touches [.windows, .markers, .jobs] (State.detach n ps s).1 := by
  simp only [State.detach]
  split
  · exact .refl s _
  · exact check_touches (s.detachEvent_touches _)

theorem State.writeProfile_touches : s.Touches [.quotas] (State.writeProfile n ps s).1 := by
  simp only [State.writeProfile]
  split
  · exact .refl s _
  · refine check_touches (check_touches (check_touches ?_))
    refine State.Touches.trans (s.setProfile_touches_quotas ?_ ?_)
      ((State.setReexamine_touches _ true).mono (by decide)) <;> rfl

theorem State.lockProfile_touches : s.Touches [] (State.lockProfile n ps s).1 := by
  simp only [State.lockProfile]
  split
  · exact .refl s _
  · exact s.setProfile_touches_nothing rfl rfl rfl rfl rfl

theorem State.writeGuard_touches : s.Touches [.guards] (State.writeGuard n ps s).1 := by
  simp only [State.writeGuard]
  refine check_touches (check_touches (check_touches ?_))
  exact (s.setGuard_touches _ _).trans ((State.setReexamine_touches _ true).mono (by decide))

theorem State.writeTimebase_touches : s.Touches [.timebase] (State.writeTimebase n ps s).1 := s.setTimebase_touches _

theorem State.timebaseStop_touches : s.Touches [.timebase] (State.timebaseStop n ps s).1 := s.setTimebase_touches _

theorem State.timebaseStart_touches : s.Touches [.timebase] (State.timebaseStart n ps s).1 := by
  simp only [State.timebaseStart]
  split
  · exact .refl s _
  · exact s.setTimebase_touches _

theorem State.writePhases_touches : s.Touches [.phases, .claims, .entries] (State.writePhases n ps s).1 := by
  have set : ∀ q, s.Touches [.phases, .claims, .entries] (s.setPhases q) := fun q =>
    (s.setPhases_touches q).mono (by decide)
  simp only [State.writePhases]
  split
  · split
    · exact (set _).trans ((State.takeAllSequencerClaims_touches _ _).mono (by decide))
    · exact set _
  · exact set _

theorem State.scrubHold_touches : s.Touches [.scrub] (State.scrubHold n ps s).1 := by
  simp only [State.scrubHold]
  split
  · exact s.setScrub_touches _
  · split
    · exact .refl s _
    · split <;> exact s.setScrub_touches _
  all_goals exact .refl s _

theorem State.scrubGo_touches : s.Touches [.scrub, .memPort] (State.scrubGo n ps s).1 := by
  have set : ∀ x, s.Touches [.scrub, .memPort] (s.setScrub x) := fun x => (s.setScrub_touches x).mono (by decide)
  simp only [State.scrubGo]
  split
  · split
    · exact set _
    · exact (set _).trans ((State.requestChunk_touches _).mono (by decide))
  · split
    · exact set _
    · exact .refl s _
  · exact set _
  · exact .refl s _

theorem State.retry_touches : s.Touches [.entries, .scrub, .memPort] (State.retry n ps s).1 := by
  simp only [State.retry]
  split
  · exact .refl s _
  · exact ((s.setEntry_touches _ _).mono (by decide)).trans ((State.joinQueue_touches _ _).mono (by decide))

theorem State.forget_touches : s.Touches [.entries] (State.forget n ps s).1 := by
  simp only [State.forget]
  split
  · exact .refl s _
  · exact s.freeEntry_touches _

end

/-! ## Every completion -/

/-- What a command of the windows does at its completion, where no check of R53 refuses it. -/
def Command.run : Command → AgentId → Vector Word 8 → State → State × Reply
  | .acquire => State.acquire
  | .renew => State.renew
  | .narrow => State.narrow
  | .release => State.release
  | .query => State.query
  | .find => State.find
  | .collect => State.collect
  | .cancel => State.cancel
  | .offer => State.offer
  | .accept => State.accept
  | .decline => State.decline
  | .fault => State.readFault
  | .profile => State.readProfile
  | .revoke => State.revoke
  | .detach => State.detach
  | .setProfile => State.writeProfile
  | .lockProfile => State.lockProfile
  | .setGuard => State.writeGuard
  | .setTimebase => State.writeTimebase
  | .timebaseStop => State.timebaseStop
  | .timebaseStart => State.timebaseStart
  | .setPhases => State.writePhases
  | .scrubHold => State.scrubHold
  | .scrubGo => State.scrubGo
  | .retry => State.retry
  | .forget => State.forget

/-- The aspects that a command's own effect can change. -/
def Command.footprint : Command → List Aspect
  | .acquire => [.entries, .waiting]
  | .renew | .narrow | .forget => [.entries]
  | .release | .retry => [.entries, .scrub, .memPort]
  | .revoke => [.entries, .scrub, .memPort, .causes]
  | .query | .find | .profile | .lockProfile => []
  | .collect | .cancel => [.waiting]
  | .offer | .accept | .decline => [.entries, .causes]
  | .fault => [.causes]
  | .detach => [.windows, .markers, .jobs]
  | .setProfile => [.quotas]
  | .setGuard => [.guards]
  | .setTimebase | .timebaseStop | .timebaseStart => [.timebase]
  | .setPhases => [.phases, .claims, .entries]
  | .scrubHold => [.scrub]
  | .scrubGo => [.scrub, .memPort]

theorem Command.run_touches (c : Command) (n : AgentId) (ps : Vector Word 8) (s : State) :
    s.Touches c.footprint (c.run n ps s).1 := by
  cases c with
  | acquire => exact s.acquire_touches n ps
  | renew => exact s.renew_touches n ps
  | narrow => exact s.narrow_touches n ps
  | release => exact s.release_touches n ps
  | query => exact .of_eq (s.query_fst n ps)
  | find => exact .of_eq (s.find_fst n ps)
  | collect => exact s.collect_touches n ps
  | cancel => exact s.cancel_touches n ps
  | offer => exact s.offer_touches n ps
  | accept => exact s.accept_touches n ps
  | decline => exact s.decline_touches n ps
  | fault => exact s.readFault_touches n ps
  | profile => exact .of_eq (s.readProfile_fst n ps)
  | revoke => exact s.revoke_touches n ps
  | detach => exact s.detach_touches n ps
  | setProfile => exact s.writeProfile_touches n ps
  | lockProfile => exact s.lockProfile_touches n ps
  | setGuard => exact s.writeGuard_touches n ps
  | setTimebase => exact s.writeTimebase_touches n ps
  | timebaseStop => exact s.timebaseStop_touches n ps
  | timebaseStart => exact s.timebaseStart_touches n ps
  | setPhases => exact s.writePhases_touches n ps
  | scrubHold => exact s.scrubHold_touches n ps
  | scrubGo => exact s.scrubGo_touches n ps
  | retry => exact s.retry_touches n ps
  | forget => exact s.forget_touches n ps

/-- The job in hand stands until the completion takes it away. -/
theorem Command.run_job (c : Command) (n : AgentId) (ps : Vector Word 8) (s : State) :
    (c.run n ps s).1.manager.job = s.manager.job := by
  have kept : ∀ c : Command, .jobs ∉ c.footprint → (c.run n ps s).1.manager.job = s.manager.job := fun c h => by
    obtain ⟨job, -⟩ := c.run_touches n ps s .jobs h
    exact job
  cases c with
  | detach =>
    simp only [Command.run, State.detach]
    split
    · rfl
    next m _ =>
      split
      · rfl
      · simp only [granted, State.detachEvent]
        split <;> rfl
  | _ => exact kept _ (by decide)

/-- The completion of command c: ACQUIRE makes R53's check of a disabled agent itself (R65). -/
def State.completion (s : State) (c : Command) : State :=
  if c = .acquire then s.completeWith c c.run else s.complete c c.run

theorem exec_completion (c : Command) (s : State) : exec c.instr s = .next (s.completion c) := by
  cases c <;> rfl

/-- A completion is nothing, a refusal DENIED by R53, or the command's own run with the response. -/
theorem State.completion_cases (s : State) (c : Command) :
    s.completion c = s ∨ ∃ n ps, s.manager.job = some (.command n c.code ps) ∧
      (s.completion c = (s.setJob none).respond n c.code { status := .denied } ∨
        (c ≠ .acquire → s.admission c n = none) ∧
          s.completion c = ((c.run n ps s).1.setJob none).respond n c.code (c.run n ps s).2) := by
  unfold State.completion
  split
  next acquire =>
    rcases s.completeWith_cases c c.run with e | ⟨n, ps, job, e⟩
    · exact .inl e
    · exact .inr ⟨n, ps, job, .inr ⟨fun other => absurd acquire other, e⟩⟩
  next =>
    rcases s.complete_cases c c.run with e | ⟨n, ps, job, e | ⟨admitted, e⟩⟩
    · exact .inl e
    · exact .inr ⟨n, ps, job, .inl e⟩
    · exact .inr ⟨n, ps, job, .inr ⟨fun _ => admitted, e⟩⟩

/-! ## Every other claim -/

/-- The command of the windows whose completion the claim is, if it is one. -/
def commandOf : Instr → Option Command
  | .acquire => some .acquire
  | .renew => some .renew
  | .narrow => some .narrow
  | .release => some .release
  | .query => some .query
  | .find => some .find
  | .collect => some .collect
  | .cancel => some .cancel
  | .offer => some .offer
  | .accept => some .accept
  | .decline => some .decline
  | .fault => some .fault
  | .profile => some .profile
  | .revoke => some .revoke
  | .detach => some .detach
  | .setProfile => some .setProfile
  | .lockProfile => some .lockProfile
  | .setGuard => some .setGuard
  | .setTimebase => some .setTimebase
  | .timebaseStop => some .timebaseStop
  | .timebaseStart => some .timebaseStart
  | .setPhases => some .setPhases
  | .scrubHold => some .scrubHold
  | .scrubGo => some .scrubGo
  | .retry => some .retry
  | .forget => some .forget
  | .accessDecode .. | .faultReport _ | .memoryGrant | .mack | .merr _ | .acknowledgeTimeout | .lmTake | .passStep
  | .teardown | .paramWrite .. | .commandWrite .. | .intstatWrite .. | .intenWrite .. | .windowWrite .. | .tick _
  | .expiry | .waitTimeout | .phaseAdvance | .opening | .noneClaim | .agrstAssert _ | .agrstRelease _ | .resetAssert
  | .resetRelease _ | .badCmd => none

theorem instr_of_commandOf {i : Instr} {c : Command} (h : commandOf i = some c) : i = c.instr := by
  cases i <;> cases h <;> rfl

/-- The aspects that a claim of a tick can change. -/
def tickFootprint : TickClaim → List Aspect
  | .produced => [.timebase]
  | .leaseTable => [.entries, .scrub, .memPort, .causes]
  | .waitList => [.waiting, .causes, .jobs]
  | .phaseSequencer => [.phases, .claims]

/-- The aspects that a claim can change which completes no command of the windows; none for the completions. -/
def claimFootprint : Instr → List Aspect
  | .accessDecode .. => [.entries, .markers, .memPort]
  | .faultReport _ => [.causes]
  | .memoryGrant => [.memPort]
  | .mack => [.entries, .markers, .memPort, .scrub, .sram]
  | .merr _ | .acknowledgeTimeout => [.entries, .markers, .memPort, .scrub, .sram, .causes]
  | .lmTake => [.jobs, .windows]
  | .passStep => [.jobs, .entries, .waiting, .causes]
  | .teardown => [.jobs, .entries, .scrub, .memPort, .waiting, .windows, .causes]
  | .paramWrite .. | .intenWrite .. => []
  | .commandWrite .. => [.windows]
  | .intstatWrite .. => [.causes]
  | .windowWrite .. => [.windows, .causes]
  | .tick c => tickFootprint c
  | .expiry => tickFootprint .leaseTable
  | .waitTimeout => tickFootprint .waitList
  | .phaseAdvance => tickFootprint .phaseSequencer
  | .opening | .noneClaim => [.entries, .claims]
  | .agrstAssert _ => [.windows, .markers, .jobs]
  | .agrstRelease _ => [.windows]
  | .resetAssert =>
    [.entries, .claims, .waiting, .jobs, .windows, .markers, .quotas, .causes, .guards, .scrub, .timebase, .phases,
     .memPort, .reset, .sram]
  | .resetRelease _ => [.windows, .markers, .jobs, .reset]
  | .acquire | .renew | .narrow | .release | .query | .find | .collect | .cancel | .offer | .accept | .decline
  | .fault | .profile | .revoke | .detach | .setProfile | .lockProfile | .setGuard | .setTimebase | .timebaseStop
  | .timebaseStart | .setPhases | .scrubHold | .scrubGo | .retry | .forget | .badCmd => []

theorem execAccessDecode_touches {n : AgentId} {c : MemSelect} {s t : State} (h : execAccessDecode n c s = .next t) :
    s.Touches [.entries, .markers, .memPort] t := by
  have held : ∀ x, s.Touches [.entries, .markers, .memPort] (s.setHeld n x) := fun x =>
    (s.setHeld_touches n x).mono (by decide)
  unfold execAccessDecode at h
  split at h
  · split at h <;> cases h
    · exact (held _).trans (State.decodeAccess_touches _ n _)
    · exact held _
  · split at h <;> cases h
    · exact (held _).trans (State.decodeAccess_touches _ n _)
    · exact .refl s _
  · cases h; exact .refl s _

theorem execFaultReport_touches {n : AgentId} {s t : State} (h : execFaultReport n s = .next t) :
    s.Touches [.causes] t := by
  unfold execFaultReport at h
  split at h <;> cases h
  · exact .refl s _
  · refine .trans ?_ (State.takeReport_touches _ n _)
    refine State.Touches.mono (L := []) (s.setPort_touches_nothing ?_ ?_ ?_) (by decide) <;> rfl

theorem execLmTake_touches {s t : State} (h : execLmTake s = .next t) : s.Touches [.jobs, .windows] t := by
  have jobs : ∀ (u : State) j, u.Touches [.jobs, .windows] (u.setJob j) := fun u j =>
    (u.setJob_touches j).mono (by decide)
  unfold execLmTake at h
  split at h
  · cases h; exact .refl s _
  · split at h
    · cases h
      exact ((s.setJobList_touches _).mono (by decide)).trans (jobs _ _)
    · split at h
      · cases h
        refine .trans ?_ ((State.endPassIfDone_touches _).mono (by decide))
        exact ((s.setReexamine_touches false).mono (by decide)).trans (jobs _ _)
      · split at h <;> cases h
        next n _ =>
          have taken : s.Touches [.jobs, .windows] (s.setPort n { s.port n with window := .executing }) :=
            State.Touches.mono (s.setPort_touches_windows rfl) (by decide)
          refine taken.trans fun a h => ?_
          cases a <;> simp_all [Aspect.same, State.port, State.profile, State.takeWindow]
        next => exact .refl s _

theorem execPassStep_touches {s t : State} (h : execPassStep s = .next t) :
    s.Touches [.jobs, .entries, .waiting, .causes] t := by
  have jobs : ∀ (u : State) j, u.Touches [.jobs, .entries, .waiting, .causes] (u.setJob j) := fun u j =>
    (u.setJob_touches j).mono (by decide)
  unfold execPassStep at h
  split at h
  · split at h <;> cases h
    · exact jobs s none
    · refine .trans ?_ ((State.endPassIfDone_touches _).mono (by decide))
      exact ((s.examine_touches _).mono (by decide)).trans (jobs _ _)
  all_goals cases h; exact .refl s _

theorem execTeardown_touches {s t : State} (h : execTeardown s = .next t) :
    s.Touches [.jobs, .entries, .scrub, .memPort, .waiting, .windows, .causes] t := by
  unfold execTeardown at h
  split at h
  · rw [← Host.Outcome.next.inj h]
    exact ((s.teardown_touches _).mono (by decide)).trans ((State.setJob_touches _ none).mono (by decide))
  all_goals cases h; exact .refl s _

theorem execBadCmd_touches {s t : State} (h : execBadCmd s = .next t) : s.Touches completionAspects t := by
  unfold execBadCmd at h
  split at h
  · split at h <;> cases h
    · exact .refl s _
    · exact ((s.setJob_touches none).mono (by decide)).trans ((State.respond_touches _ _ _ _).mono (by decide))
  all_goals cases h; exact .refl s _

theorem execTick_touches {c : TickClaim} {s t : State} (h : execTick c s = .next t) :
    s.Touches (tickFootprint c) t := by
  cases c with
  | produced =>
    simp only [execTick] at h
    split at h <;> cases h
    · exact s.produceTick_touches
    · exact .refl s _
  | leaseTable => cases h; exact s.leaseTick_touches
  | waitList => cases h; exact s.waitTick_touches
  | phaseSequencer => cases h; exact s.phaseTick_touches

theorem execWindowWrite_touches {n : AgentId} {c : WindowSelect} {s t : State} (h : execWindowWrite n c s = .next t) :
    s.Touches [.windows, .causes] t := by
  unfold execWindowWrite at h
  split at h <;> cases h
  · exact s.presentWindow_touches n _ fun u => u.windowCycle_touches n _
  · exact s.presentWindow_touches n _ fun u => u.windowCycle_touches n _
  · exact .refl s _

theorem execOpening_touches {s t : State} (h : execOpening s = .next t) : s.Touches [.entries, .claims] t := by
  unfold execOpening at h
  split at h <;> cases h
  · exact ((s.setSequencerClaims_touches _).mono (by decide)).trans (State.takeSequencerClaim_touches _ _)
  all_goals exact .refl s _

theorem execNoneClaim_touches {s t : State} (h : execNoneClaim s = .next t) : s.Touches [.entries, .claims] t := by
  unfold execNoneClaim at h
  split at h <;> cases h
  · exact ((s.setSequencerClaims_touches _).mono (by decide)).trans (State.takeSequencerClaim_touches _ _)
  all_goals exact .refl s _

theorem execAgrstAssert_touches {n : AgentId} {s t : State} (h : execAgrstAssert n s = .next t) :
    s.Touches [.windows, .markers, .jobs] t := by
  have line : s.Touches [.windows, .markers, .jobs] (s.setLine n true) :=
    State.Touches.mono (s.setPort_touches_windows rfl) (by decide)
  unfold execAgrstAssert at h
  split at h
  · cases h; exact .refl s _
  · split at h <;> cases h
    · exact line
    · exact line.trans (State.detachEvent_touches _ n)

theorem execAgrstRelease_touches {n : AgentId} {s t : State} (h : execAgrstRelease n s = .next t) :
    s.Touches [.windows] t := by
  have line : s.Touches [.windows] (s.setLine n false) := s.setPort_touches_windows rfl
  simp only [execAgrstRelease] at h
  split at h
  · split at h <;> cases h
    · exact line.trans (State.setPort_touches_windows _ rfl)
    · exact line
  · cases h; exact .refl s _

theorem execResetRelease_touches {order : List AgentId} {s t : State} (h : execResetRelease order s = .next t) :
    s.Touches [.windows, .markers, .jobs, .reset] t := by
  unfold execResetRelease at h
  split at h <;> cases h
  · refine .trans (fun a h => ?_)
      (foldl_touches (fun u n => (u.readLine_touches n).mono (by decide)) (order ++ allAgents) _)
    cases a <;> simp_all [Aspect.same, State.profile]
  · exact .refl s _

/-- No claim changes an aspect outside its footprint. -/
theorem exec_touches {c : Instr} {s t : State} (h : exec c s = .next t) (claim : commandOf c = none)
    (known : c ≠ .badCmd) : s.Touches (claimFootprint c) t := by
  have answered : ∀ (n : AgentId) (t u : State) (L : List Aspect), t.Touches L u →
      t.Touches L (u.answerWindow n .acknowledge) := fun n t u L k =>
    k.trans ((u.answerWindow_touches n _).mono (List.nil_subset L))
  cases c with
  -- the accesses and the Memory Port
  | accessDecode n c => exact execAccessDecode_touches h
  | faultReport n => exact execFaultReport_touches h
  | memoryGrant => cases h; exact s.setMemPort_touches _
  | mack => cases h; exact s.wordDone_touches
  | merr m => cases h; exact s.wordFailed_touches
  | acknowledgeTimeout => cases h; exact s.wordFailed_touches
  -- the Lease Manager's own claims
  | lmTake => exact execLmTake_touches h
  | passStep => exact execPassStep_touches h
  | teardown => exact execTeardown_touches h
  | badCmd => exact absurd rfl known
  -- the window select
  | paramWrite n k v =>
    cases h
    exact s.presentWindow_touches n _ fun u => answered n u _ _ (u.writeParam_touches n k v)
  | commandWrite n v =>
    cases h
    exact s.presentWindow_touches n _ fun u => answered n u _ _ (u.writeCommand_touches n v)
  | intstatWrite n v =>
    cases h
    exact s.presentWindow_touches n _ fun u => answered n u _ _ (u.clearCauses_touches n v)
  | intenWrite n v =>
    cases h
    exact s.presentWindow_touches n _ fun u => answered n u _ _ (u.writeEnable_touches n v)
  | windowWrite n c => exact execWindowWrite_touches h
  -- time
  | tick c => exact execTick_touches h
  | expiry =>
    simp only [exec, execExpiry] at h
    split at h <;> cases h
    · exact s.leaseTick_touches
    · exact .refl s _
  | waitTimeout =>
    simp only [exec, execWaitTimeout] at h
    split at h <;> cases h
    · exact s.waitTick_touches
    · exact .refl s _
  | phaseAdvance =>
    simp only [exec, execPhaseAdvance] at h
    split at h <;> cases h
    · exact s.phaseTick_touches
    · exact .refl s _
  | opening => exact execOpening_touches h
  | noneClaim => exact execNoneClaim_touches h
  -- the lines
  | agrstAssert n => exact execAgrstAssert_touches h
  | agrstRelease n => exact execAgrstRelease_touches h
  | resetAssert => exact fun a n => by cases a <;> exact absurd (by decide) n
  | resetRelease order => exact execResetRelease_touches h
  -- the completions
  | _ => cases claim

/-! ## Laws that look at some aspects alone -/

/-- A law that looks at the aspects A alone. -/
def LooksAt (P : State → Prop) (A : List Aspect) : Prop := ∀ s t : State, (∀ a ∈ A, a.same s t) → P s → P t

/-- What changes no aspect that the law looks at keeps it. -/
theorem LooksAt.of_touches {P : State → Prop} {A L : List Aspect} (looks : LooksAt P A) {s t : State}
    (h : s.Touches L t) (apart : ∀ a ∈ A, a ∉ L) (p : P s) : P t := looks s t (fun a ha => h a (apart a ha)) p

/-- Some aspect of A is among L. -/
def meets (A L : List Aspect) : Bool := A.any fun a => decide (a ∈ L)

theorem apart_of_meets {A L : List Aspect} (h : ¬meets A L = true) : ∀ a ∈ A, a ∉ L := fun a ha hl =>
  h (List.any_eq_true.mpr ⟨a, ha, decide_eq_true hl⟩)

/-- RESET leaves, beside the lines, the RESET input itself and the array, what device reset leaves (R185). -/
theorem State.resetBlocks_same (s : State) {a : Aspect} (h : a ∉ [Aspect.windows, .reset, .sram]) :
    a.same State.reset s.resetBlocks := by
  have port : ∀ n, s.resetBlocks.port n = { Port.reset with
      agrst := (s.port n).agrst, held := s.openCycle n, heldWindow := (s.port n).heldWindow } := fun n => by
    simp only [State.port, State.resetBlocks, Fin.getElem_fin, Vector.getElem_ofFn, Fin.eta]
  have reset : ∀ n, State.reset.port n = Port.reset := by decide
  cases a with
  | windows => exact absurd (by decide) h
  | reset => exact absurd (by decide) h
  | sram => exact absurd (by decide) h
  | claims => exact ⟨rfl, rfl⟩
  | waiting => exact ⟨rfl, rfl⟩
  | jobs => exact ⟨rfl, rfl⟩
  | markers => exact fun n => by rw [port, reset]
  | quotas => exact fun _ => ⟨rfl, rfl, rfl⟩
  | causes => exact fun _ => ⟨rfl, rfl⟩
  | phases => exact ⟨rfl, rfl, rfl, rfl⟩
  | _ => rfl

/-- A law of device reset is one of RESET, where it looks at no line and not at the array. -/
theorem LooksAt.of_reset {P : State → Prop} {A : List Aspect} (looks : LooksAt P A)
    (apart : meets A [.windows, .reset, .sram] = false) (p : P State.reset) (s : State) : P s.resetBlocks :=
  looks _ _ (fun _ ha => s.resetBlocks_same (apart_of_meets (Bool.eq_false_iff.mp apart) _ ha)) p

/-- A law is kept by an instruction where its own claim keeps it, if that changes an aspect the law looks at, and so do
the freeing of the Lease Manager, the responses and the commands' own effects. -/
theorem exec_keeps_law {P : State → Prop} {A : List Aspect} (looks : LooksAt P A)
    (completion : ∀ (s : State) n c r, (∃ ps, s.manager.job = some (.command n c ps)) → P s →
      P ((s.setJob none).respond n c r))
    (own : ∀ (c : Command) n ps (s : State), meets A c.footprint = true →
      s.manager.job = some (.command n c.code ps) → (c ≠ .acquire → s.admission c n = none) → P s →
      P (((c.run n ps s).1.setJob none).respond n c.code (c.run n ps s).2))
    {i : Instr} {s t : State} (claim : meets A (claimFootprint i) = true → P t) (p : P s) (h : exec i s = .next t) :
    P t := by
  cases hc : commandOf i with
  | some c =>
    rw [instr_of_commandOf hc, exec_completion] at h
    rw [← Host.Outcome.next.inj h]
    rcases s.completion_cases c with e | ⟨n, ps, job, e | ⟨admitted, e⟩⟩
    · rwa [e]
    · rw [e]
      exact completion s n _ _ ⟨ps, job⟩ p
    · rw [e]
      by_cases meet : meets A c.footprint = true
      · exact own c n ps s meet job admitted p
      · refine completion _ n _ _ ⟨ps, (c.run_job n ps s).trans job⟩ ?_
        exact looks.of_touches (c.run_touches n ps s) (apart_of_meets meet) p
  | none =>
    by_cases bad : i = .badCmd
    · subst bad
      simp only [exec, execBadCmd] at h
      split at h
      next n code ps job =>
        split at h <;> cases h
        · exact p
        · exact completion s n code _ ⟨ps, job⟩ p
      all_goals cases h; exact p
    · by_cases meet : meets A (claimFootprint i) = true
      · exact claim meet
      · exact looks.of_touches (exec_touches h hc bad) (apart_of_meets meet) p

/-- What changes the queue alone keeps a law. -/
theorem LooksAt.queue {P : State → Prop} {A : List Aspect} (looks : LooksAt P A) (s : State) (l : List Instr) (p : P s) :
    P { s with pending := l } :=
  looks _ _ (fun a _ => by cases a <;> simp [Aspect.same, State.port, State.profile]) p

/-- A law is kept by every step where the claims keep it that change an aspect it looks at: the freeing of the Lease
Manager, the responses, the commands' own effects, the other claims, and one clock. -/
theorem step_keeps_law {P : State → Prop} {A : List Aspect} (looks : LooksAt P A)
    (completion : ∀ (s : State) n c r, (∃ ps, s.manager.job = some (.command n c ps)) → P s →
      P ((s.setJob none).respond n c r))
    (own : ∀ (c : Command) n ps (s : State), meets A c.footprint = true →
      s.manager.job = some (.command n c.code ps) → (c ≠ .acquire → s.admission c n = none) → P s →
      P (((c.run n ps s).1.setJob none).respond n c.code (c.run n ps s).2))
    (claim : ∀ (i : Instr) s t, meets A (claimFootprint i) = true → exec i s = .next t → P s → P t)
    (clock : ∀ s : State, P s → P s.clock) {s t : State} (p : P s) (h : step s = .next t) : P t :=
  step_keeps (P := P) looks.queue
    (fun i s t h p => exec_keeps_law looks completion own (fun meet => claim i s t meet h p) p h) clock p h

end Sys2Proof.Machine
end

section
/-! SUPPORT. R133, R147, R150: the Timebase's fields and the Phase Sequencer's, and the phase in force behind it. -/

namespace Sys2Proof.Machine

/-- A law that looks at nothing the completion of a command changes by itself is kept by it. -/
theorem LooksAt.completion {P : State → Prop} {A : List Aspect} (looks : LooksAt P A)
    (apart : ∀ a ∈ A, a ∉ completionAspects) (s : State) (n : AgentId) (code : BitVec 8) (r : Reply) (p : P s) :
    P ((s.setJob none).respond n code r) := by
  have ended : s.Touches completionAspects ((s.setJob none).respond n code r) := by
    have freed : s.Touches completionAspects (s.setJob none) := (s.setJob_touches none).mono (by decide)
    exact freed.trans ((State.respond_touches _ n code r).mono (by decide))
  exact looks.of_touches ended apart p

/-! ## The Timebase (R133) -/

theorem State.timebaseLaw_looksAt : LooksAt State.TimebaseLaw [.timebase] := by
  intro s t same law
  have timebase : t.timebase = s.timebase := same .timebase (by decide)
  simpa only [State.TimebaseLaw, timebase] using law

theorem Timebase.period_pos (x : Timebase) : 0 < x.period := Nat.mul_pos (Nat.succ_pos _) (Nat.succ_pos _)

/-- A tick restarts the divider (R134). -/
theorem State.TimebaseLaw.produceTick {s : State} (law : s.TimebaseLaw) : s.produceTick.TimebaseLaw := by
  obtain ⟨p, d, -⟩ := law
  exact ⟨p, d, s.timebase.period_pos⟩

theorem State.TimebaseLaw.clockDivider {s : State} (law : s.TimebaseLaw) : s.clockDivider.TimebaseLaw := by
  unfold State.clockDivider
  split
  · split
    next below =>
      obtain ⟨p, d, -⟩ := law
      exact ⟨p, d, below⟩
    next => exact law.produceTick
  · exact law

theorem State.TimebaseLaw.clock {s : State} (law : s.TimebaseLaw) : s.clock.TimebaseLaw := by
  unfold State.clock
  split
  · exact law
  · exact State.timebaseLaw_looksAt.of_touches (State.clockWord_touches _) (by decide) law.clockDivider

theorem State.TimebaseLaw.run {c : Command} {s : State} (touched : meets [.timebase] c.footprint = true)
    (n : AgentId) (ps : Vector Word 8) (law : s.TimebaseLaw) : (c.run n ps s).1.TimebaseLaw := by
  obtain ⟨p, d, count⟩ := law
  cases c with
  | setTimebase =>
    exact ⟨Nat.le_of_lt_succ (field_lt ps[0] 0 4), Nat.le_of_lt_succ (field_lt ps[0] 16 12), Timebase.period_pos _⟩
  | timebaseStop => exact ⟨p, d, count⟩
  | timebaseStart =>
    simp only [Command.run, State.timebaseStart]
    split
    · exact ⟨p, d, count⟩
    · exact ⟨p, d, Timebase.period_pos _⟩
  | _ => exact (Bool.false_ne_true touched).elim

theorem State.TimebaseLaw.step {s t : State} (law : s.TimebaseLaw) (h : step s = .next t) : t.TimebaseLaw := by
  have completion := State.timebaseLaw_looksAt.completion (by decide)
  refine step_keeps_law State.timebaseLaw_looksAt (fun s n c r _ => completion s n c r)
    (fun c n ps s touched _ _ law => completion _ n _ _ (law.run touched n ps)) ?claim (fun _ law => law.clock) law h
  case claim =>
    intro i s t touched h law
    cases i with
    | tick c =>
      cases c with
      | produced =>
        simp only [exec, execTick] at h
        split at h <;> cases h
        · exact law.produceTick
        · exact law
      | _ => exact (Bool.false_ne_true touched).elim
    | resetAssert =>
      cases h
      exact State.timebaseLaw_looksAt.of_reset (by decide) ⟨by decide, by decide, by decide⟩ _
    | _ => exact (Bool.false_ne_true touched).elim

/-! ## The Phase Sequencer (R147 to R150) -/

/-- The phase that a claim of the sequencer puts in force (R150). -/
def SequencerClaim.phase : SequencerClaim → Option Phase
  | .opening p => some p
  | .none => Option.none

/-- Every length fits its 12 bits (R147). -/
def PhaseSequencer.Bounded (q : PhaseSequencer) : Prop := ∀ p : Phase, q.active[p] ≤ 4095 ∧ q.pending[p] ≤ 4095

/-- The sequencer's own fields are in their ranges (R147). -/
def PhaseSequencer.InRange (q : PhaseSequencer) : Prop :=
  (match q.current with
    | none => q.ticksLeft = 0 ∧ ∀ p : Phase, q.active[p] = 0
    | some p => 1 ≤ q.ticksLeft ∧ q.ticksLeft ≤ q.active[p]) ∧ q.Bounded

/-- What a claim leaves and hands to the Lease Table agree: the sequencer is in range, and the claim handed names its
current phase; where none is handed, the phase is the one before (R148 to R150). -/
def PhaseSequencer.Follows (q : PhaseSequencer) (r : PhaseSequencer × Option SequencerClaim) : Prop :=
  r.1.InRange ∧ r.1.current = match r.2 with | some c => c.phase | none => q.current

theorem State.sequencerLaw_iff (s : State) :
    s.SequencerLaw ↔ s.phases.InRange ∧ s.leases.comingPhase = s.phases.current := and_assoc.symm

theorem LeaseTable.comingPhase_eq (t : LeaseTable) :
    t.comingPhase = match t.sequencerClaims.getLast? with | some c => c.phase | none => t.inForce := by
  unfold LeaseTable.comingPhase
  cases t.sequencerClaims.getLast? with
  | none => rfl
  | some c => cases c <;> rfl

/-- A claim handed to the Lease Table is the last that it takes. -/
theorem LeaseTable.comingPhase_append (t : LeaseTable) (c : SequencerClaim) :
    LeaseTable.comingPhase { t with sequencerClaims := t.sequencerClaims ++ [c] } = c.phase := by
  rw [LeaseTable.comingPhase_eq]
  simp only [List.getLast?_concat]

theorem State.sequencerLaw_looksAt : LooksAt State.SequencerLaw [.phases, .claims] := by
  intro s t same law
  obtain ⟨inForce, claims⟩ : t.leases.inForce = s.leases.inForce ∧
      t.leases.sequencerClaims = s.leases.sequencerClaims := same .claims (by decide)
  obtain ⟨current, left, active, pending⟩ : t.phases.current = s.phases.current ∧
      t.phases.ticksLeft = s.phases.ticksLeft ∧ t.phases.active = s.phases.active ∧
      t.phases.pending = s.phases.pending := same .phases (by decide)
  simpa only [State.SequencerLaw, LeaseTable.comingPhase, inForce, claims, current, left, active, pending] using law

theorem firstOpen_some {lengths : Vector Nat 4} {l : List Phase} {p : Phase} (h : firstOpen lengths l = some p) :
    lengths[p] ≠ 0 := by
  simpa using List.find?_some h

theorem firstOpen_none {lengths : Vector Nat 4} (h : firstOpen lengths allPhases = none) (p : Phase) :
    lengths[p] = 0 := by
  simpa using List.find?_eq_none.mp h p (List.mem_finRange p)

/-- A phase that is not skipped opens with its whole length left (R148). -/
theorem PhaseSequencer.openPhase_inRange {q : PhaseSequencer} {p : Phase} (bounded : q.Bounded)
    (open_ : q.active[p] ≠ 0) : (q.openPhase p).InRange :=
  ⟨⟨Nat.pos_of_ne_zero open_, Nat.le_refl _⟩, bounded⟩

/-- The frame boundary (R149). -/
theorem PhaseSequencer.boundary_follows {q : PhaseSequencer} (bounded : q.Bounded) : q.Follows q.boundary := by
  have adopted : PhaseSequencer.Bounded
      (if q.pendingFlag then { q with active := q.pending, pendingFlag := false } else q) := by
    split
    · exact fun p => ⟨(bounded p).2, (bounded p).2⟩
    · exact bounded
  unfold PhaseSequencer.boundary
  dsimp only
  split
  next p opens => exact ⟨openPhase_inRange adopted (firstOpen_some opens), rfl⟩
  next skipped =>
    refine ⟨⟨⟨rfl, firstOpen_none skipped⟩, adopted⟩, ?_⟩
    cases q.current <;> rfl

/-- The claim of one tick (R148). -/
theorem PhaseSequencer.tick_follows {q : PhaseSequencer} (h : q.InRange) : q.Follows q.tick := by
  obtain ⟨current, bounded⟩ := h
  unfold PhaseSequencer.tick
  split
  next none_ =>
    split
    · exact boundary_follows bounded
    · exact ⟨⟨current, bounded⟩, rfl⟩
  next c some_ =>
    simp only [some_] at current
    obtain ⟨-, within⟩ := current
    split
    next more =>
      refine ⟨⟨?_, bounded⟩, rfl⟩
      simp only [some_]
      omega
    next =>
      unfold PhaseSequencer.advance
      split
      next p opens => exact ⟨openPhase_inRange bounded (firstOpen_some opens), rfl⟩
      next =>
        obtain ⟨inRange, follows⟩ := boundary_follows (q := { q with ticksLeft := 0 }) bounded
        exact ⟨inRange, follows⟩

/-- A sequencer that follows its claim, with the claim handed over, keeps the law. -/
theorem State.SequencerLaw.handClaim {s : State} {r : PhaseSequencer × Option SequencerClaim}
    (law : s.SequencerLaw) (h : s.phases.Follows r) : ((s.setPhases r.1).handClaim r.2).SequencerLaw := by
  obtain ⟨-, coming⟩ := (s.sequencerLaw_iff).mp law
  obtain ⟨inRange, follows⟩ := h
  rw [State.sequencerLaw_iff]
  cases claim : r.2 with
  | none =>
    rw [claim] at follows
    exact ⟨inRange, coming.trans follows.symm⟩
  | some c =>
    rw [claim] at follows
    exact ⟨inRange, (LeaseTable.comingPhase_append s.leases c).trans follows.symm⟩

theorem State.SequencerLaw.phaseTick {s : State} (law : s.SequencerLaw) : s.phaseTick.SequencerLaw := by
  obtain ⟨inRange, -⟩ := (s.sequencerLaw_iff).mp law
  unfold State.phaseTick
  split
  · exact law
  next k _ => exact law.handClaim (PhaseSequencer.tick_follows (q := { s.phases with ticksDue := k }) inRange)

/-! ## The claims at the Lease Table (R150) -/

/-- Entry i at an opening of phase p (R150). -/
def State.openEntry (p : Phase) (s : State) (i : EntryId) : State :=
  s.setEntry i { s.entry i with body := (s.entry i).body.makeEffective p }

/-- The state with another phase in force. -/
def State.setInForce (s : State) (p : Option Phase) : State := { s with leases := { s.leases with inForce := p } }

theorem State.takeSequencerClaim_opening (s : State) (p : Phase) :
    s.takeSequencerClaim (.opening p) = (s.forEntries (State.openEntry p)).setInForce (some p) := rfl

theorem State.takeSequencerClaim_none (s : State) : s.takeSequencerClaim .none = s.setInForce none := rfl

theorem State.takeSequencerClaim_inForce (s : State) (c : SequencerClaim) :
    (s.takeSequencerClaim c).leases.inForce = c.phase := by
  cases c <;> rfl

/-- What neither an entry nor the phase in force decides, a claim of the sequencer leaves. -/
theorem State.takeSequencerClaim_keeps {α : Type} (P : State → α) (entry : ∀ s i e, P (State.setEntry s i e) = P s)
    (inForce : ∀ s p, P (State.setInForce s p) = P s) (s : State) (c : SequencerClaim) :
    P (s.takeSequencerClaim c) = P s := by
  cases c with
  | opening p =>
    rw [State.takeSequencerClaim_opening, inForce]
    exact State.forEntries_keeps P (fun u i => entry u i _) s
  | none => rw [State.takeSequencerClaim_none, inForce]

theorem State.takeSequencerClaim_sequencerClaims (s : State) (c : SequencerClaim) :
    (s.takeSequencerClaim c).leases.sequencerClaims = s.leases.sequencerClaims :=
  State.takeSequencerClaim_keeps (fun u => u.leases.sequencerClaims) (fun _ _ _ => rfl) (fun _ _ => rfl) s c

theorem State.takeSequencerClaim_phases (s : State) (c : SequencerClaim) :
    (s.takeSequencerClaim c).phases = s.phases :=
  State.takeSequencerClaim_keeps State.phases (fun _ _ _ => rfl) (fun _ _ => rfl) s c

theorem State.takeAllSequencerClaims_inForce (s : State) (c : SequencerClaim) :
    (s.takeAllSequencerClaims c).leases.inForce = c.phase := by
  rw [State.takeAllSequencerClaims, List.foldl_append, List.foldl_cons, List.foldl_nil, State.takeSequencerClaim_inForce]

theorem State.takeAllSequencerClaims_sequencerClaims (s : State) (c : SequencerClaim) :
    (s.takeAllSequencerClaims c).leases.sequencerClaims = [] :=
  foldl_keeps (fun u => u.leases.sequencerClaims) State.takeSequencerClaim_sequencerClaims _ _

theorem State.takeAllSequencerClaims_phases (s : State) (c : SequencerClaim) :
    (s.takeAllSequencerClaims c).phases = s.phases :=
  foldl_keeps (fun u => u.phases) State.takeSequencerClaim_phases _ _

/-- The Lease Table takes the oldest claim: what is coming stays (R150). -/
theorem State.SequencerLaw.takeOldest {s : State} {c : SequencerClaim} {rest : List SequencerClaim}
    (law : s.SequencerLaw) (h : s.leases.sequencerClaims = c :: rest) :
    ((s.setSequencerClaims rest).takeSequencerClaim c).SequencerLaw := by
  obtain ⟨inRange, coming⟩ := (s.sequencerLaw_iff).mp law
  rw [State.sequencerLaw_iff, State.takeSequencerClaim_phases]
  refine ⟨inRange, .trans ?_ coming⟩
  rw [LeaseTable.comingPhase_eq, LeaseTable.comingPhase_eq, State.takeSequencerClaim_inForce,
    State.takeSequencerClaim_sequencerClaims, h]
  cases rest with
  | nil => rfl
  | cons d rest =>
    rw [State.setSequencerClaims_leases, List.getLast?_cons_cons, List.getLast?_eq_some_getLast (List.cons_ne_nil d rest)]

/-! ## SET-PHASES (R153, R154) -/

theorem lengthFields_le (ps : Vector Word 8) (p : Phase) : (lengthFields ps)[p] ≤ 4095 := by
  have below : ∀ w : Word, field w 0 12 ≤ 4095 := fun w => Nat.le_of_lt_succ (field_lt w 0 12)
  revert p
  rw [Fin.forall_fin_succ, Fin.forall_fin_succ, Fin.forall_fin_two]
  exact ⟨below ps[0], below ps[1], below ps[2], below ps[3]⟩

/-- Lengths adopted by a sequencer in NONE open a phase, or are all 0 (R154). -/
theorem PhaseSequencer.adopt_follows {q : PhaseSequencer} {v : Vector Nat 4} (h : q.InRange)
    (none_ : q.current = none) (bounded : ∀ p : Phase, v[p] ≤ 4095) :
    q.Follows (q.adopt v) ∧ ∀ c, (q.adopt v).2 = some c → ∃ p, c = .opening p := by
  obtain ⟨current, -⟩ := h
  simp only [none_] at current
  obtain ⟨left, -⟩ := current
  unfold PhaseSequencer.adopt
  dsimp only
  split
  next p opens =>
    refine ⟨⟨openPhase_inRange (fun p => ⟨bounded p, bounded p⟩) (firstOpen_some opens), rfl⟩, fun c h => ⟨p, ?_⟩⟩
    exact (Option.some.inj h).symm
  next skipped =>
    refine ⟨⟨⟨?_, fun p => ⟨bounded p, bounded p⟩⟩, rfl⟩, nofun⟩
    simp only [none_]
    exact ⟨left, firstOpen_none skipped⟩

theorem State.SequencerLaw.writePhases {s : State} (law : s.SequencerLaw) (n : AgentId) (ps : Vector Word 8) :
    (State.writePhases n ps s).1.SequencerLaw := by
  obtain ⟨inRange, coming⟩ := (s.sequencerLaw_iff).mp law
  simp only [State.writePhases]
  split
  next at_once =>
    obtain ⟨⟨adopted, follows⟩, -⟩ := PhaseSequencer.adopt_follows inRange at_once.1 (lengthFields_le ps)
    split
    next c claim =>
      rw [claim] at follows
      rw [State.sequencerLaw_iff]
      simp only [granted, State.takeAllSequencerClaims_phases, LeaseTable.comingPhase_eq,
        State.takeAllSequencerClaims_sequencerClaims, State.takeAllSequencerClaims_inForce]
      exact ⟨adopted, follows.symm⟩
    next claim =>
      rw [claim] at follows
      exact (State.sequencerLaw_iff _).mpr ⟨adopted, coming.trans follows.symm⟩
  next =>
    obtain ⟨current, bounded⟩ := inRange
    exact (State.sequencerLaw_iff _).mpr ⟨⟨current, fun p => ⟨(bounded p).1, lengthFields_le ps p⟩⟩, coming⟩

theorem State.reset_sequencerLaw : State.reset.SequencerLaw := ⟨⟨rfl, by decide⟩, by decide, rfl⟩

theorem State.SequencerLaw.step {s t : State} (law : s.SequencerLaw) (h : step s = .next t) : t.SequencerLaw := by
  have completion := State.sequencerLaw_looksAt.completion (by decide)
  refine step_keeps_law State.sequencerLaw_looksAt (fun s n c r _ => completion s n c r) ?own ?claim
    (fun s law => State.sequencerLaw_looksAt.of_touches s.clock_touches (by decide) law) law h
  case own =>
    intro c n ps s touched _ _ law
    cases c with
    | setPhases => exact completion _ n _ _ (law.writePhases n ps)
    | _ => exact (Bool.false_ne_true touched).elim
  case claim =>
    intro i s t touched h law
    cases i with
    | tick c =>
      cases c with
      | phaseSequencer => cases h; exact law.phaseTick
      | _ => exact (Bool.false_ne_true touched).elim
    | phaseAdvance =>
      simp only [exec, execPhaseAdvance] at h
      split at h <;> cases h
      · exact law.phaseTick
      · exact law
    | opening =>
      simp only [exec, execOpening] at h
      split at h <;> cases h
      next claims => exact law.takeOldest claims
      all_goals exact law
    | noneClaim =>
      simp only [exec, execNoneClaim] at h
      split at h <;> cases h
      next claims => exact law.takeOldest claims
      all_goals exact law
    | resetAssert =>
      cases h
      exact State.sequencerLaw_looksAt.of_reset (by decide) State.reset_sequencerLaw _
    | _ => exact (Bool.false_ne_true touched).elim

/-- Settles O59: a law that looks at the sequencer or at the Timebase alone is kept by every claim that changes them. -/
theorem sequencerAndTimebaseAreKept : Obligations.SequencerAndTimebaseAreKept :=
  fun _ _ h => ⟨fun law => law.step h, fun law => law.step h⟩

end Sys2Proof.Machine
end

section
/-! SUPPORT. What a step can do to the lease entries: the moves of one entry, and the grants, transfers and faults that
go beyond them. -/

namespace Sys2Proof.Machine

/-! ## Moves in a row -/

/-- Any number of moves of r from a, one after another (Mathlib's `Relation.ReflTransGen`; the package has core Lean
alone). -/
inductive Moves {α : Type} (r : α → α → Prop) (a : α) : α → Prop
  | refl : Moves r a a
  | tail {b c : α} (moved : Moves r a b) (move : r b c) : Moves r a c

theorem Moves.single {α : Type} {r : α → α → Prop} {a b : α} (h : r a b) : Moves r a b := .tail .refl h

theorem Moves.trans {α : Type} {r : α → α → Prop} {a b c : α} (h : Moves r a b) (k : Moves r b c) : Moves r a c := by
  induction k with
  | refl => exact h
  | tail _ move ih => exact ih.tail move

/-! ## The moves of one entry -/

/-- What befalls an entry without a grant, a transfer or a failed scrub: the entry of one body has the other. A retired
entry drains only where f says that its owner has an access in flight inside the range. -/
inductive EntryBody.Turns (f : AgentId → Range → Bool) : EntryBody → EntryBody → Prop
  /-- Freed (R6, R108, R111, R122). -/
  | freed {b : EntryBody} : Turns f b .free
  /-- Retired with its lease (R100). -/
  | retired {o : AgentId} {l : Lease} {t : Option AgentId} {d : Bool} (drain : d = true → f o l.range = true) :
      Turns f (.active o l t) (.retiring (some o) l d)
  /-- Retired by the tick that brings Remaining to 0 (R142). -/
  | expired {o : AgentId} {l : Lease} {t : Option AgentId} {d : Bool} {m : Timed} {c : Countdown}
      (life : l.life = .timed m c) (last : c.remaining - 1 = 0) (drain : d = true → f o l.range = true) :
      Turns f (.active o l t) (.retiring (some o) (l.withCount m c 0 c.warned) d)
  /-- Drained (R36). -/
  | drained {o : Option AgentId} {l : Lease} : Turns f (.retiring o l true) (.retiring o l false)
  /-- Retried (R121). -/
  | retried {l : Lease} : Turns f (.faulted l) (.retiring none l false)
  /-- Renewed (R75, R76). -/
  | renewed {o : AgentId} {l : Lease} {t : Option AgentId} {x : Option (Nat × Nat)}
      (renewable : l.life.renewable x = true) (bounded : ∀ y ∈ x, y.1 < 2 ^ 16) :
      Turns f (.active o l t) (.active o { l with life := l.life.renew x } none)
  /-- Narrowed (R78, R79). -/
  | narrowed {o : AgentId} {l : Lease} {t : Option AgentId} {order : Nat} {rights : Rights}
      (narrowable : l.narrowable order rights = true) :
      Turns f (.active o l t)
        (.active o { l with rights := rights, range := { l.range with order := order } } none)
  /-- Counted down by a tick (R139). -/
  | counted {o : AgentId} {l : Lease} {t : Option AgentId} {m : Timed} {c : Countdown} (life : l.life = .timed m c)
      (more : c.remaining - 1 ≠ 0) (noWarning : c.remaining - 1 ≠ c.warn) :
      Turns f (.active o l t) (.active o (l.withCount m c (c.remaining - 1) c.warned) t)
  /-- Counted down to Warn (R140). -/
  | warned {o : AgentId} {l : Lease} {t : Option AgentId} {m : Timed} {c : Countdown} (life : l.life = .timed m c)
      (more : c.remaining - 1 ≠ 0) (warning : c.remaining - 1 = c.warn) :
      Turns f (.active o l t) (.active o (l.withCount m c (c.remaining - 1) true) t)
  /-- Reloaded by a permitted access (R31). -/
  | reloaded {o : AgentId} {l : Lease} {t : Option AgentId} :
      Turns f (.active o l t) (.active o { l with life := l.life.reloadByAccess } t)
  /-- Made effective by the opening of its phase (R150). -/
  | opened {o : AgentId} {l : Lease} {t : Option AgentId} {x : Slot} (slotted : l.slot = some x) :
      Turns f (.active o l t) (.active o { l with slot := some { x with effective := true } } t)
  /-- Offered (R124, R125). -/
  | offered {o : AgentId} {l : Lease} {t : Option AgentId} {n : AgentId} (other : n ≠ o)
      (counts : l.life ≠ .pinned) : Turns f (.active o l t) (.active o l (some n))
  /-- An offer declined or withdrawn (R130, R176). -/
  | withdrawn {o : AgentId} {l : Lease} {t : Option AgentId} : Turns f (.active o l t) (.active o l none)

/-- Every entry of t has moved there from what it is in s. -/
def State.Turns (s : State) (f : AgentId → Range → Bool) (t : State) : Prop :=
  ∀ i, Moves (EntryBody.Turns f) (s.entry i).body (t.entry i).body

/-- An access that is in flight in s is so as f says. -/
def State.Flying (s : State) (f : AgentId → Range → Bool) : Prop := ∀ n r, s.inFlight n r = true → f n r = true

theorem State.flying_self (s : State) : s.Flying s.inFlight := fun _ _ h => h

section
variable {f : AgentId → Range → Bool}

theorem State.Flying.of_ports {s t : State} (h : s.Flying f) (ports : t.ports = s.ports) : t.Flying f := by
  intro n r flight
  refine h n r ?_
  simpa only [State.inFlight, State.port, ports] using flight

theorem State.Turns.refl (s : State) : s.Turns f s := fun _ => .refl

theorem State.Turns.trans {s t u : State} (h : s.Turns f t) (k : t.Turns f u) : s.Turns f u := fun i => (h i).trans (k i)

theorem State.Turns.of_entries {s t : State} (h : ∀ i, t.entry i = s.entry i) : s.Turns f t := fun i => h i ▸ .refl

theorem State.Touches.entry {s t : State} {L : List Aspect} (h : s.Touches L t) (apart : .entries ∉ L) (i : EntryId) :
    t.entry i = s.entry i := by
  have entries : t.leases.entries = s.leases.entries := h .entries apart
  rw [State.entry, State.entry, entries]

theorem State.Turns.of_touches {s t : State} {L : List Aspect} (h : s.Touches L t) (apart : .entries ∉ L) :
    s.Turns f t := .of_entries (h.entry apart)

/-- A change that leaves the entries, after the moves. -/
theorem State.Turns.frame {s t u : State} (h : s.Turns f t) (e : ∀ i, u.entry i = t.entry i) : s.Turns f u :=
  h.trans (.of_entries e)

theorem foldl_turns {β : Type} {g : State → β → State} (h : ∀ (s : State) x, s.Turns f (g s x)) (l : List β)
    (s : State) : s.Turns f (l.foldl g s) :=
  foldl_invariant (P := fun t => s.Turns f t) (fun t x ht => ht.trans (h t x)) l s (.refl s)

theorem State.forEntries_turns {g : State → EntryId → State} (h : ∀ (s : State) i, s.Turns f (g s i)) (s : State) :
    s.Turns f (s.forEntries g) := foldl_turns h _ s

/-- The same of moves that look at what is in flight, and leave it. -/
theorem State.forEntries_turns_of_flying {g : State → EntryId → State} (ports : ∀ (s : State) i, (g s i).ports = s.ports)
    (h : ∀ (s : State) i, s.Flying f → s.Turns f (g s i)) (s : State) (flying : s.Flying f) :
    s.Turns f (s.forEntries g) := by
  have both : s.Turns f (s.forEntries g) ∧ (s.forEntries g).Flying f :=
    foldl_invariant (P := fun t => s.Turns f t ∧ t.Flying f)
      (fun t i ⟨turns, flying⟩ => ⟨turns.trans (h t i flying), flying.of_ports (ports t i)⟩) allEntries s
      ⟨.refl s, flying⟩
  exact both.1

/-- What every move of one entry keeps, all of them keep. -/
theorem State.Turns.keeps {s t : State} {P : EntryBody → Prop} (step : ∀ a b, a.Turns f b → P a → P b)
    (h : s.Turns f t) (i : EntryId) (p : P (s.entry i).body) : P (t.entry i).body := by
  have all : ∀ {b}, Moves (EntryBody.Turns f) (s.entry i).body b → P b := fun r => by
    induction r with
    | refl => exact p
    | tail _ turn ih => exact step _ _ turn ih
  exact all (h i)

/-! ## The operations on entries -/

section
variable (s : State)

theorem State.setEntry_turns {i : EntryId} {e : Entry} (h : (s.entry i).body.Turns f e.body) :
    s.Turns f (s.setEntry i e) := by
  intro j
  rw [State.setEntry_entry]
  split
  next eq => exact eq ▸ .single h
  next => exact .refl

theorem State.freeEntry_turns (i : EntryId) : s.Turns f (s.freeEntry i) :=
  (s.setEntry_turns .freed).frame fun _ => rfl

theorem State.drained_turns (i : EntryId) (l : Lease) : s.Turns f (s.drained i l) := by
  unfold State.drained
  split
  · exact s.freeEntry_turns i
  · exact .of_entries (s.joinQueue_entry i)

/-- Where an entry moves to RETIRING, its retirement is a move (R100, R108). -/
theorem State.retire_turns_of {t : State} {i : EntryId} (flying : t.Flying f) (others : ∀ j, i ≠ j → t.entry j = s.entry j) {o : AgentId}
    {l : Lease} {x : Option AgentId} (body : (t.entry i).body = .active o l x)
    (turn : ∀ d, (d = true → f o l.range = true) → (s.entry i).body.Turns f (.retiring (some o) l d)) : s.Turns f (t.retire i) := by
  have retiring : ∀ g d, (d = true → f o l.range = true) →
      s.Turns f (t.setEntry i { gen := g, body := .retiring (some o) l d }) := by
    intro g d drain j
    rw [State.setEntry_entry]
    split
    next eq => exact eq ▸ .single (turn d drain)
    next ne => exact others j ne ▸ .refl
  simp only [State.retire, body]
  split
  · exact retiring _ _ (flying o l.range)
  · exact (retiring _ _ (flying o l.range)).trans (State.drained_turns _ i l)

theorem State.retire_turns (flying : s.Flying f) (i : EntryId) : s.Turns f (s.retire i) := by
  by_cases active : ∃ o l x, (s.entry i).body = .active o l x
  · obtain ⟨o, l, x, body⟩ := active
    exact s.retire_turns_of flying (fun _ _ => rfl) body fun _ drain => body ▸ .retired drain
  · rw [s.retire_of_notActive fun o l x body => active ⟨o, l, x, body⟩]
    exact .refl s

theorem State.drainEntry_turns (n : AgentId) (i : EntryId) : s.Turns f (State.drainEntry n s i) := by
  unfold State.drainEntry
  split
  next o l body =>
    split
    · exact (s.setEntry_turns (body ▸ .drained)).trans (State.drained_turns _ i l)
    · exact .refl s
  all_goals exact .refl s

theorem State.setActive_turns {i : EntryId} {v : ActiveView}
    (h : (s.entry i).body.Turns f (.active v.owner v.lease v.offer)) : s.Turns f (s.setActive i v) :=
  s.setEntry_turns h

theorem State.tickEntry_turns (flying : s.Flying f) (i : EntryId) : s.Turns f (s.tickEntry i) := by
  unfold State.tickEntry
  split
  next o l x body =>
    split
    next => exact .refl s
    next m c life =>
      dsimp only
      split
      next last =>
        refine State.Turns.frame ?_ fun _ => State.raise_entry _ _ _ _
        refine s.retire_turns_of (o := o) (l := l.withCount m c 0 c.warned) (x := x) flying (fun j ne => ?_) ?_
          fun _ drain => ?_
        · rw [State.setActive, State.setEntry_entry, if_neg ne]
        · rw [State.setActive, State.setEntry_entry, if_pos rfl]
        · exact body ▸ .expired life last drain
      next more =>
        split
        next warning =>
          exact (s.setActive_turns (by rw [body]; exact .warned life more warning)).frame fun _ =>
            State.raise_entry _ _ _ _
        next noWarning => exact s.setActive_turns (by rw [body]; exact .counted life more noWarning)
  all_goals exact .refl s

theorem State.tickEntry_ports (i : EntryId) : (s.tickEntry i).ports = s.ports := by
  unfold State.tickEntry
  split
  · split
    · rfl
    · dsimp only
      split
      · rw [State.raise_ports, State.retire_ports, State.setActive_ports]
      · split <;> rfl
  all_goals rfl

theorem State.leaseTick_turns (flying : s.Flying f) : s.Turns f s.leaseTick := by
  unfold State.leaseTick
  split
  · exact .refl s
  next k _ =>
    have due : s.Turns f { s with leases := { s.leases with ticksDue := k } } := .of_entries fun _ => rfl
    exact due.trans (State.forEntries_turns_of_flying State.tickEntry_ports (fun u i h => u.tickEntry_turns h i) _ flying)

theorem State.openEntry_turns (p : Phase) (i : EntryId) : s.Turns f (State.openEntry p s i) := by
  have moved : ∀ b : EntryBody, Moves (EntryBody.Turns f) b (b.makeEffective p) := by
    intro b
    cases b with
    | active o l t =>
      simp only [EntryBody.makeEffective]
      split
      next x slotted =>
        split
        · exact .single (.opened slotted)
        · exact .refl
      next => exact .refl
    | _ => exact .refl
  intro j
  rw [State.openEntry, State.setEntry_entry]
  split
  next eq => exact eq ▸ moved _
  next => exact .refl

theorem State.setInForce_turns (p : Option Phase) : s.Turns f (s.setInForce p) := .of_entries fun _ => rfl

theorem State.takeSequencerClaim_turns (c : SequencerClaim) : s.Turns f (s.takeSequencerClaim c) := by
  cases c with
  | opening p =>
    rw [State.takeSequencerClaim_opening]
    exact (State.forEntries_turns (fun u i => u.openEntry_turns p i) s).trans (State.setInForce_turns _ _)
  | none => exact s.setInForce_turns _

theorem State.takeAllSequencerClaims_turns (c : SequencerClaim) : s.Turns f (s.takeAllSequencerClaims c) := by
  have emptied : s.Turns f (s.setSequencerClaims []) := .of_touches (s.setSequencerClaims_touches []) (by decide)
  rw [State.takeAllSequencerClaims]
  exact emptied.trans (foldl_turns State.takeSequencerClaim_turns _ _)

theorem State.teardownEntry_turns (flying : s.Flying f) (n : AgentId) (i : EntryId) : s.Turns f (State.teardownEntry n s i) := by
  unfold State.teardownEntry
  split
  · exact s.retire_turns flying i
  · exact .refl s

theorem State.teardownEntry_ports (n : AgentId) (i : EntryId) : (State.teardownEntry n s i).ports = s.ports := by
  unfold State.teardownEntry
  split
  · exact s.retire_ports i
  · rfl

theorem State.teardownEntries_turns (flying : s.Flying f) (n : AgentId) :
    s.Turns f (s.forEntries (State.teardownEntry n)) :=
  State.forEntries_turns_of_flying (fun u i => u.teardownEntry_ports n i) (fun u i h => u.teardownEntry_turns h n i) s
    flying

theorem State.teardownOffer_turns (n : AgentId) (i : EntryId) : s.Turns f (State.teardownOffer n s i) := by
  unfold State.teardownOffer
  split
  next body =>
    split
    · exact (s.setActive_turns (body ▸ .withdrawn)).frame fun _ => State.raise_entry _ _ _ _
    · exact .refl s
  all_goals exact .refl s

theorem State.teardown_turns (flying : s.Flying f) (n : AgentId) : s.Turns f (s.teardown n) := by
  have entries := s.teardownEntries_turns flying n
  have offers := entries.trans (State.forEntries_turns (fun u i => u.teardownOffer_turns n i) _)
  refine offers.frame fun i => ?_
  simp only [State.teardown, State.teardownWindow, State.setReexamine_entry, State.setPort_entry,
    State.emptyStatus_entry]
  exact foldl_keeps (fun t => t.entry i) (fun t w => State.teardownWait_entry n t w i) _ _

theorem State.reloadCovering_turns (n : AgentId) (a : Addr) : s.Turns f (s.reloadCovering n a) := by
  unfold State.reloadCovering
  split
  next i l h =>
    obtain ⟨t, body⟩ := State.covering_active h
    rw [body]
    exact s.setActive_turns (by rw [body]; exact .reloaded)
  next => exact .refl s

theorem State.decodeAccess_turns (n : AgentId) (c : MemCycle) : s.Turns f (s.decodeAccess n c) := by
  unfold State.decodeAccess
  split
  next => exact .of_entries fun _ => rfl
  next a _ =>
    split
    · exact .of_entries fun _ => rfl
    · split
      · exact .of_entries fun _ => rfl
      · exact (s.reloadCovering_turns n a.info.addr).frame fun _ => rfl

theorem State.completeAccess_turns (n : AgentId) (b : BusAnswer) (r : List FaultReport) :
    s.Turns f (s.completeAccess n b r) := by
  have ended : ∀ p m, s.Turns f ((s.setPort n p).setMemPort m) := fun _ _ => .of_entries fun _ => rfl
  rw [State.completeAccess]
  exact (ended _ _).trans (State.forEntries_turns (fun u i => u.drainEntry_turns n i) _)

theorem State.accessDone_turns (n : AgentId) (a : Access) : s.Turns f (s.accessDone n a) := by
  unfold State.accessDone
  split
  · exact (State.Turns.of_entries (s.takeWord_entry _)).trans (State.completeAccess_turns _ n _ _)
  all_goals exact s.completeAccess_turns n _ _

theorem State.accessFailed_turns (n : AgentId) (a : Access) : s.Turns f (s.accessFailed n a) := by
  rw [State.accessFailed]
  exact (State.Turns.of_entries (s.leaveWord_entry _)).trans (State.completeAccess_turns _ n _ _)

theorem State.chunkDone_turns : s.Turns f s.chunkDone := by
  have still : ∀ x, s.Turns f (s.setScrub x).moveEngine := fun x => .of_entries fun _ => State.moveEngine_entry _ _
  unfold State.chunkDone
  dsimp only
  split
  next => exact still _
  next i rest _ =>
    split
    · split
      · exact (s.freeEntry_turns i).frame fun _ => State.moveEngine_entry _ _
      · exact still _
    · exact still _

theorem State.wordDone_turns : s.Turns f s.wordDone := by
  have taken : ∀ l m, s.Turns f ((s.takeWord l).setMemPort m) := fun l _ => .of_entries (s.takeWord_entry l)
  unfold State.wordDone
  split
  next => exact .refl s
  next n a _ => exact s.accessDone_turns n a
  next c k _ =>
    dsimp only
    split
    · exact taken _ _
    · exact (taken _ _).trans (State.chunkDone_turns _)

end

end

end Sys2Proof.Machine
end

section
/-! SUPPORT. What a step can do to the lease entries as a whole: moves alone; or one entry granted, passed on or FAULTED;
or the table of device reset. -/

namespace Sys2Proof.Machine

/-- R66 to R68: the agent may hold a lease over the range. -/
def State.MayHold (s : State) (n : AgentId) (r : Range) : Prop :=
  s.Unguarded n r ∧ s.WithinQuota n r ∧ s.NoSelfOverlap n r

/-- The agent asks for the request: with a valid ACQUIRE of its own, or by a wait entry (R64, R65, R90). -/
def State.Asks (s : State) (n : AgentId) (q : Request) : Prop :=
  (∃ ps, decodeRequest ps = some q ∧ q.valid = true ∧ (q.life = .pinned → n = 0)) ∨
    ∃ w d, (s.wait w).body = .waiting n q d

/-- The bodies of t are those of s, but for entry i, whose body is b. -/
def State.SetsBody (s : State) (i : EntryId) (b : EntryBody) (t : State) : Prop :=
  ∀ j, (t.entry j).body = if i = j then b else (s.entry j).body

/-- What the Lease Manager, the ports and time do to the entries. -/
inductive State.EntryStep (s t : State) : Prop where
  | turns (h : s.Turns s.inFlight t)
  /-- A FREE entry is granted (R7, R71, R91). -/
  | grant (i : EntryId) (n : AgentId) (q : Request) (free : (s.entry i).body = .free) (may : s.MayHold n q.range)
      (asks : s.Asks n q) (h : s.SetsBody i (.active n q.lease none) t)
  /-- An offered entry is passed on (R127, R128). -/
  | accept (i : EntryId) (o n : AgentId) (l : Lease) (body : (s.entry i).body = .active o l (some n))
      (may : s.MayHold n l.range) (h : s.SetsBody i (.active n l.handedOver none) t)

/-- What an event other than RESET does to the entries. -/
inductive State.EntryEvent (s t : State) : Prop where
  | leasing (h : s.EntryStep t)
  /-- The head of the scrub queue becomes FAULTED (R119). -/
  | fault (i : EntryId) (l : Lease) (body : (s.entry i).body.lease? = some l) (h : s.SetsBody i (.faulted l) t)

theorem State.EntryStep.same {s t : State} (h : ∀ i, t.entry i = s.entry i) : s.EntryStep t := .turns (.of_entries h)

theorem State.EntryEvent.same {s t : State} (h : ∀ i, t.entry i = s.entry i) : s.EntryEvent t := .leasing (.same h)

theorem State.EntryEvent.turns {s t : State} (h : s.Turns s.inFlight t) : s.EntryEvent t := .leasing (.turns h)

theorem State.SetsBody.frame {s t u : State} {i : EntryId} {b : EntryBody} (h : s.SetsBody i b t)
    (e : ∀ j, u.entry j = t.entry j) : s.SetsBody i b u := fun j => by rw [e, h]

theorem State.setEntry_setsBody (s : State) (i : EntryId) (e : Entry) : s.SetsBody i e.body (s.setEntry i e) := by
  intro j
  rw [State.setEntry_entry]
  split <;> rfl

/-- A change that leaves the entries, after the event. -/
theorem State.EntryStep.frame {s t u : State} (h : s.EntryStep t) (e : ∀ j, u.entry j = t.entry j) :
    s.EntryStep u := by
  cases h with
  | turns h => exact .turns (h.frame e)
  | grant i n q free may asks h => exact .grant i n q free may asks (h.frame e)
  | accept i o n l body may h => exact .accept i o n l body may (h.frame e)

/-- The event after a change that it does not look at. -/
theorem State.EntryStep.after {s t u : State} {L : List Aspect} (h : s.Touches L t)
    (apart : ∀ a ∈ [Aspect.entries, .quotas, .guards, .waiting, .markers], a ∉ L) (k : t.EntryStep u) : s.EntryStep u := by
  have entry := h.entry (apart .entries (by decide))
  have activeOf : ∀ i n, (t.entry i).body.activeOf n = (s.entry i).body.activeOf n := fun i n => by rw [entry]
  have profile : ∀ n, (t.profile n).leaseQuota = (s.profile n).leaseQuota ∧
      (t.profile n).pageQuota = (s.profile n).pageQuota := fun n => (h .quotas (apart .quotas (by decide)) n).2
  have guards : t.guards = s.guards := h .guards (apart .guards (by decide))
  have waits : t.waits.entries = s.waits.entries := (h .waiting (apart .waiting (by decide))).1
  have markers : ∀ n, (t.port n).marker = (s.port n).marker := h .markers (apart .markers (by decide))
  have inFlight : t.inFlight = s.inFlight := funext fun n => funext fun r => by
    simp only [State.inFlight, markers]
  have leases : ∀ n, t.leasesHeld n = s.leasesHeld n := fun n => by simp only [State.leasesHeld, activeOf]
  have pages : ∀ n, t.pagesHeld n = s.pagesHeld n := fun n => by simp only [State.pagesHeld, activeOf]
  have may : ∀ n r, t.MayHold n r → s.MayHold n r := by
    intro n r m
    simpa only [State.MayHold, State.Unguarded, State.WithinQuota, State.NoSelfOverlap, State.guard, guards, leases,
      pages, profile, activeOf] using m
  have sets : ∀ i b, t.SetsBody i b u → s.SetsBody i b u := fun i b k j => by rw [k j, entry]
  cases k with
  | turns k => exact .turns ((State.Turns.of_entries entry).trans (inFlight ▸ k))
  | grant i n q free m asks k =>
    refine .grant i n q (entry i ▸ free) (may _ _ m) ?_ (sets _ _ k)
    simpa only [State.Asks, State.wait, waits] using asks
  | accept i o n l body m k => exact .accept i o n l (entry i ▸ body) (may _ _ m) (sets _ _ k)

theorem State.EntryEvent.after {s t u : State} {L : List Aspect} (h : s.Touches L t)
    (apart : ∀ a ∈ [Aspect.entries, .quotas, .guards, .waiting, .markers], a ∉ L) (k : t.EntryEvent u) : s.EntryEvent u := by
  have entry := h.entry (apart .entries (by decide))
  cases k with
  | leasing k => exact .leasing (k.after h apart)
  | fault i l body k => exact .fault i l (entry i ▸ body) fun j => by rw [k j, entry]

/-! ## The checks, where they pass -/

theorem State.unguarded_of_check {s : State} {n : AgentId} {r : Range} (h : ¬s.guardedFor n r = true) :
    s.Unguarded n r := Classical.not_not.mp (mt (s.guardedFor_iff n r).mpr h)

theorem State.withinQuota_of_check {s : State} {n : AgentId} {r : Range} (h : ¬s.overQuota n r = true) :
    s.WithinQuota n r := Classical.not_not.mp (mt (s.overQuota_iff n r).mpr h)

theorem State.noSelfOverlap_of_check {s : State} {n : AgentId} {r : Range} (h : ¬s.selfOverlaps n r = true) :
    s.NoSelfOverlap n r := Classical.not_not.mp (mt (s.selfOverlaps_iff n r).mpr h)

theorem State.firstFree_free {s : State} {i : EntryId} (h : s.firstFree = some i) : (s.entry i).body = .free :=
  (EntryBody.isFree_iff _).mp (List.find?_some (p := fun i => (s.entry i).body.isFree) h)

/-- A check that refuses leaves the state; the rest of the command runs where it passes. -/
theorem State.check_of {P : State → Prop} {s : State} {check : Prop} [Decidable check] {st : StatusCode}
    {rest : State × Reply} (refused : P s) (h : ¬check → P rest.1) : P (if check then refuse s st else rest).1 := by
  split
  · exact refused
  next passed => exact h passed

theorem State.check_entryStep {s : State} {check : Prop} [Decidable check] {st : StatusCode} {rest : State × Reply}
    (h : ¬check → s.EntryStep rest.1) : s.EntryStep (if check then refuse s st else rest).1 :=
  State.check_of (.same fun _ => rfl) h

/-! ## The commands of the windows -/

section
variable (s : State) (n : AgentId) (ps : Vector Word 8)

theorem State.acquire_entryStep : s.EntryStep (State.acquire n ps s).1 := by
  unfold State.acquire
  split
  next => exact .same fun _ => rfl
  next q decoded =>
    refine State.check_entryStep fun valid => State.check_entryStep fun admitted =>
      State.check_entryStep fun guarded => State.check_entryStep fun quota => State.check_entryStep fun overlap => ?_
    split
    · exact .same (s.queueOr_entry n q ps .conflict)
    · split
      · exact .same (s.queueOr_entry n q ps .tableFull)
      next i free =>
        have pinned : q.life = .pinned → n = 0 := fun life => Classical.byContradiction fun other =>
          admitted (by simp [life, other])
        exact .grant i n q (State.firstFree_free free)
          ⟨State.unguarded_of_check guarded, State.withinQuota_of_check quota, State.noSelfOverlap_of_check overlap⟩
          (.inl ⟨ps, decoded, by simpa using valid, pinned⟩) (s.setEntry_setsBody i _)

theorem State.renew_entryStep : s.EntryStep (State.renew n ps s).1 := by
  simp only [State.renew]
  split
  next => exact .same fun _ => rfl
  next v e =>
    refine State.check_entryStep fun _ => State.check_entryStep fun renewable => ?_
    have bounded : ∀ y ∈ newTermField ps, y.1 < 2 ^ 16 := by
      intro y mem
      unfold newTermField at mem
      split at mem
      · cases mem
        exact field_lt ps[4] 0 16
      · cases mem
    refine .turns (s.setActive_turns ?_)
    rw [State.resolve_ok e]
    exact .renewed (Bool.not_not_eq.mp renewable) bounded

theorem State.narrow_entryStep : s.EntryStep (State.narrow n ps s).1 := by
  simp only [State.narrow]
  split
  next => exact .same fun _ => rfl
  next v e =>
    refine State.check_entryStep fun _ => State.check_entryStep fun narrowable => ?_
    refine .turns (State.Turns.frame (s.setActive_turns ?_) fun _ => State.setReexamine_entry _ _ _)
    rw [State.resolve_ok e]
    exact .narrowed (Bool.not_not_eq.mp narrowable)

theorem State.release_entryStep : s.EntryStep (State.release n ps s).1 := by
  simp only [State.release]
  split
  next => exact .same fun _ => rfl
  next v _ => exact State.check_entryStep fun _ => .turns (s.retire_turns s.flying_self _)

theorem State.revoke_entryStep : s.EntryStep (State.revoke n ps s).1 := by
  simp only [State.revoke]
  split
  next => exact .same fun _ => rfl
  next v _ => exact .turns ((s.retire_turns s.flying_self _).frame (State.raise_entry _ .revoked v.owner))

theorem State.offer_entryStep : s.EntryStep (State.offer n ps s).1 := by
  simp only [State.offer]
  split
  next => exact .same fun _ => rfl
  next v e =>
    refine State.check_entryStep fun _ => ?_
    split
    next => exact .same fun _ => rfl
    next t _ =>
      refine State.check_entryStep fun valid => State.check_entryStep fun _ => ?_
      obtain ⟨other, counts⟩ := not_or.mp valid
      refine .turns (State.Turns.frame (s.setActive_turns (v := { v with offer := some t }) ?_) fun _ => rfl)
      rw [State.resolve_ok e]
      exact .offered other counts

theorem State.accept_entryStep : s.EntryStep (State.accept n ps s).1 := by
  simp only [State.accept]
  split
  next => exact .same fun _ => rfl
  next v e =>
    refine State.check_entryStep fun offered => State.check_entryStep fun guarded => State.check_entryStep fun quota =>
      State.check_entryStep fun overlap => ?_
    have body : (s.entry (Handle.ofWord ps[0]).entry).body = .active v.owner v.lease (some n) := by
      rw [State.resolve_ok e, Classical.not_not.mp offered]
    exact .accept (Handle.ofWord ps[0]).entry v.owner n v.lease body
      ⟨State.unguarded_of_check guarded, State.withinQuota_of_check quota, State.noSelfOverlap_of_check overlap⟩
      ((s.setEntry_setsBody _ _).frame fun _ => rfl)

theorem State.decline_entryStep : s.EntryStep (State.decline n ps s).1 := by
  simp only [State.decline]
  split
  next => exact .same fun _ => rfl
  next v e =>
    refine State.check_entryStep fun _ => ?_
    refine .turns (State.Turns.frame (s.setActive_turns (v := { v with offer := none }) ?_) fun _ => rfl)
    rw [State.resolve_ok e]
    exact .withdrawn

theorem State.retry_entryStep : s.EntryStep (State.retry n ps s).1 := by
  simp only [State.retry]
  split
  next => exact .same fun _ => rfl
  next l e =>
    exact .turns ((s.setEntry_turns (State.resolveFaulted_ok e ▸ .retried)).frame (State.joinQueue_entry _ _))

theorem State.forget_entryStep : s.EntryStep (State.forget n ps s).1 := by
  simp only [State.forget]
  split
  next => exact .same fun _ => rfl
  next => exact .turns (s.freeEntry_turns _)

theorem State.writePhases_entryStep : s.EntryStep (State.writePhases n ps s).1 := by
  have set : ∀ q, s.Turns s.inFlight (s.setPhases q) := fun q => .of_touches (s.setPhases_touches q) (by decide)
  simp only [State.writePhases]
  split
  · split
    · exact .turns ((set _).trans (State.takeAllSequencerClaims_turns _ _))
    · exact .turns (set _)
  · exact .turns (set _)

/-- What the own effect of each command does to the entries. -/
theorem Command.run_entryStep (c : Command) : s.EntryStep (c.run n ps s).1 := by
  have kept : ∀ c : Command, .entries ∉ c.footprint → s.EntryStep (c.run n ps s).1 := fun c apart =>
    .same ((c.run_touches n ps s).entry apart)
  cases c with
  | acquire => exact s.acquire_entryStep n ps
  | renew => exact s.renew_entryStep n ps
  | narrow => exact s.narrow_entryStep n ps
  | release => exact s.release_entryStep n ps
  | revoke => exact s.revoke_entryStep n ps
  | offer => exact s.offer_entryStep n ps
  | accept => exact s.accept_entryStep n ps
  | decline => exact s.decline_entryStep n ps
  | retry => exact s.retry_entryStep n ps
  | forget => exact s.forget_entryStep n ps
  | setPhases => exact s.writePhases_entryStep n ps
  | _ => exact kept _ (by decide)

end

/-! ## The other claims -/

section
variable (s : State)

/-- A step of the pass grants where R91's conditions hold (R90 to R92). -/
theorem State.examine_entryStep (w : WaitId) : s.EntryStep (s.examine w) := by
  unfold State.examine
  split
  next n q d body =>
    split
    · exact .same (s.resolveWait_entry w .denied)
    · split
      · exact .same (s.resolveWait_entry w .guarded)
      next guarded =>
        split
        next grantable =>
          split
          next i free =>
            simp only [State.grantable, Bool.and_eq_true, Bool.not_eq_true'] at grantable
            obtain ⟨⟨⟨-, -⟩, quota⟩, overlap⟩ := grantable
            exact .grant i n q (State.firstFree_free free)
              ⟨State.unguarded_of_check guarded, State.withinQuota_of_check (Bool.eq_false_iff.mp quota),
                State.noSelfOverlap_of_check (Bool.eq_false_iff.mp overlap)⟩
              (.inr ⟨w, d, body⟩) ((s.setEntry_setsBody i _).frame (State.resolveWait_entry _ w _))
          next => exact .same fun _ => rfl
        next => exact .same fun _ => rfl
  all_goals exact .same fun _ => rfl

theorem State.chunkFailed_entryEvent : s.EntryEvent s.chunkFailed := by
  unfold State.chunkFailed
  split
  next => exact .same s.moveEngine_entry
  next i rest _ =>
    split
    next l body =>
      have faulted : s.SetsBody i (.faulted l) (s.setEntry i { gen := (s.entry i).gen, body := .faulted l }) :=
        s.setEntry_setsBody i _
      exact .fault i l body (faulted.frame fun _ => State.moveEngine_entry _ _)
    next => exact .same s.moveEngine_entry

theorem State.wordFailed_entryEvent : s.EntryEvent s.wordFailed := by
  unfold State.wordFailed
  split
  next => exact .same fun _ => rfl
  next n a _ => exact .turns (s.accessFailed_turns n a)
  next c k _ =>
    have cut : ∀ x m, s.Touches [.sram, .memPort] ((s.leaveWord x).setMemPort m) := fun x m =>
      ((s.leaveWord_touches x).mono (by decide)).trans ((State.setMemPort_touches _ m).mono (by decide))
    exact .after (cut _ _) (by decide) (State.chunkFailed_entryEvent _)

theorem State.clockWord_entryEvent : s.EntryEvent s.clockWord := by
  unfold State.clockWord
  split
  · exact .same fun _ => rfl
  · exact .same fun _ => rfl
  · split
    · exact .same fun _ => rfl
    · exact s.wordFailed_entryEvent

theorem State.clock_entryEvent : s.EntryEvent s.clock := by
  unfold State.clock
  split
  · exact .same fun _ => rfl
  · have divided : s.Touches [.timebase] s.clockDivider := s.clockDivider_touches
    exact .after divided (by decide) (State.clockWord_entryEvent _)

end

theorem execAccessDecode_turns {n : AgentId} {c : MemSelect} {s t : State} (h : execAccessDecode n c s = .next t)
    {f : AgentId → Range → Bool} : s.Turns f t := by
  have held : ∀ x, s.Turns f (s.setHeld n x) := fun x => .of_touches (s.setHeld_touches n x) (by decide)
  unfold execAccessDecode at h
  split at h
  · split at h <;> cases h
    · exact (held _).trans (State.decodeAccess_turns _ n _)
    · exact held _
  · split at h <;> cases h
    · exact (held _).trans (State.decodeAccess_turns _ n _)
    · exact .refl s
  · cases h; exact .refl s

theorem execPassStep_entryStep {s t : State} (h : execPassStep s = .next t) : s.EntryStep t := by
  unfold execPassStep at h
  split at h
  · split at h <;> cases h
    · exact .same fun _ => rfl
    next w rest _ => exact (s.examine_entryStep w).frame fun _ => State.endPassIfDone_entry _ _
  all_goals cases h; exact .same fun _ => rfl

theorem execTeardown_turns {s t : State} (h : execTeardown s = .next t) : s.Turns s.inFlight t := by
  unfold execTeardown at h
  split at h
  next n _ =>
    rw [← Host.Outcome.next.inj h]
    exact (s.teardown_turns s.flying_self n).frame (State.setJob_entry _ none)
  all_goals cases h; exact .refl s

theorem execOpening_turns {s t : State} (h : execOpening s = .next t) {f : AgentId → Range → Bool} :
    s.Turns f t := by
  have taken : ∀ l, s.Turns f (s.setSequencerClaims l) := fun l => .of_touches (s.setSequencerClaims_touches l) (by decide)
  unfold execOpening at h
  split at h <;> cases h
  · exact (taken _).trans (State.takeSequencerClaim_turns _ _)
  all_goals exact .refl s

theorem execNoneClaim_turns {s t : State} (h : execNoneClaim s = .next t) {f : AgentId → Range → Bool} :
    s.Turns f t := by
  have taken : ∀ l, s.Turns f (s.setSequencerClaims l) := fun l => .of_touches (s.setSequencerClaims_touches l) (by decide)
  unfold execNoneClaim at h
  split at h <;> cases h
  · exact (taken _).trans (State.takeSequencerClaim_turns _ _)
  all_goals exact .refl s

/-- What every claim does to the entries that completes no command of the windows. -/
theorem exec_entryEvent {i : Instr} {s t : State} (h : exec i s = .next t) (claim : commandOf i = none)
    (known : i ≠ .badCmd) (running : i ≠ .resetAssert) : s.EntryEvent t := by
  have kept : .entries ∉ claimFootprint i → s.EntryEvent t := fun apart =>
    .same ((exec_touches h claim known).entry apart)
  cases i with
  | accessDecode n c => exact .turns (execAccessDecode_turns h)
  | mack => cases h; exact .turns s.wordDone_turns
  | merr m => cases h; exact s.wordFailed_entryEvent
  | acknowledgeTimeout => cases h; exact s.wordFailed_entryEvent
  | passStep => exact .leasing (execPassStep_entryStep h)
  | teardown => exact .turns (execTeardown_turns h)
  | tick c =>
    cases c with
    | leaseTable => cases h; exact .turns (s.leaseTick_turns s.flying_self)
    | _ => exact kept (by decide)
  | expiry =>
    simp only [exec, execExpiry] at h
    split at h <;> cases h
    · exact .turns (s.leaseTick_turns s.flying_self)
    · exact .same fun _ => rfl
  | opening => exact .turns (execOpening_turns h)
  | noneClaim => exact .turns (execNoneClaim_turns h)
  | resetAssert => exact absurd rfl running
  | badCmd => exact absurd rfl known
  | _ => exact kept (by simp only [claimFootprint]; decide)

/-! ## Laws of the entries -/

/-- A claim with a footprint completes no command of the windows. -/
theorem claim_of_meets {A : List Aspect} {i : Instr} (touched : meets A (claimFootprint i) = true) :
    commandOf i = none ∧ i ≠ .badCmd := by
  have nothing : meets A [] = false := List.any_eq_false.mpr fun _ _ => by simp
  cases i with
  | accessDecode | faultReport | memoryGrant | mack | merr | acknowledgeTimeout | lmTake | passStep | teardown
  | paramWrite | intstatWrite | intenWrite | windowWrite | commandWrite | tick | expiry | waitTimeout | phaseAdvance
  | opening | noneClaim | agrstAssert | agrstRelease | resetAssert | resetRelease => exact ⟨rfl, nofun⟩
  | _ => exact (Bool.false_ne_true (nothing.symm.trans touched)).elim

/-- SET-PROFILE alone writes the quotas, SET-GUARD alone the guard spans. -/
theorem Command.footprint_apart {c : Command} (profile : c ≠ .setProfile) (guard : c ≠ .setGuard) :
    .quotas ∉ c.footprint ∧ .guards ∉ c.footprint := by
  cases c with
  | setProfile => exact absurd rfl profile
  | setGuard => exact absurd rfl guard
  | _ => decide

/-- No claim but RESET changes a quota or a guard span. -/
theorem claimFootprint_apart {i : Instr} (running : i ≠ .resetAssert) :
    .quotas ∉ claimFootprint i ∧ .guards ∉ claimFootprint i := by
  cases i with
  | resetAssert => exact absurd rfl running
  | tick c => cases c <;> decide
  | _ => simp only [claimFootprint]; decide

/-- A law of entries, quotas and guard spans is kept by every step, where every event on the entries keeps it and the
two commands do that write a quota or a guard span. -/
theorem step_keeps_entry_law {P : State → Prop} (looks : LooksAt P [.entries, .quotas, .guards])
    (reset : P State.reset)
    (event : ∀ s t L, s.EntryEvent t → s.Touches L t → .quotas ∉ L → .guards ∉ L → P s → P t)
    (writeProfile : ∀ s n ps, P s → P (State.writeProfile n ps s).1)
    (writeGuard : ∀ s n ps, P s → P (State.writeGuard n ps s).1) {s t : State} (p : P s) (h : step s = .next t) :
    P t := by
  have completion := looks.completion (by decide)
  refine step_keeps_law looks (fun s n c r _ => completion s n c r) ?own ?claim
    (fun s p => event s _ _ s.clock_entryEvent s.clock_touches (by decide) (by decide) p) p h
  case own =>
    intro c n ps s _ _ _ p
    refine completion _ n _ _ ?_
    by_cases profile : c = .setProfile
    · subst profile
      exact writeProfile s n ps p
    · by_cases guard : c = .setGuard
      · subst guard
        exact writeGuard s n ps p
      · obtain ⟨quotas, guards⟩ := Command.footprint_apart profile guard
        exact event s _ _ (.leasing (c.run_entryStep s n ps)) (c.run_touches n ps s) quotas guards p
  case claim =>
    intro i s t touched h p
    by_cases running : i = .resetAssert
    · subst running
      cases h
      exact looks.of_reset (by decide) reset _
    · obtain ⟨claim, known⟩ := claim_of_meets touched
      obtain ⟨quotas, guards⟩ := claimFootprint_apart running
      exact event s t _ (exec_entryEvent h claim known running) (exec_touches h claim known) quotas guards p

end Sys2Proof.Machine
end

section
/-! SUPPORT. R42, R120, R53, R159, R161: the level-like causes, agent 0's enable and the quotas' ranges; and the canonical
form of the list that holds the array. -/

namespace Sys2Proof.Machine

/-! ## The array's list -/

theorem State.memoryLaw_looksAt : LooksAt State.MemoryLaw [.sram] := by
  intro s t same law
  have sram : t.sram = s.sram := same .sram (by decide)
  simpa only [State.MemoryLaw, sram] using law

theorem State.MemoryLaw.of_touches {s t : State} {L : List Aspect} (law : s.MemoryLaw) (h : s.Touches L t)
    (apart : .sram ∉ L) : t.MemoryLaw :=
  State.memoryLaw_looksAt.of_touches h (fun _ ha => List.mem_singleton.mp ha ▸ apart) law

theorem State.MemoryLaw.wordDone {s : State} (law : s.MemoryLaw) : s.wordDone.MemoryLaw := by
  have taken : ∀ l, (s.takeWord l).MemoryLaw := fun l => s.takeWord_wf l law
  unfold State.wordDone
  split
  · exact law
  · unfold State.accessDone
    split
    · exact (taken _).of_touches (State.completeAccess_touches _ _ _ _) (by decide)
    all_goals exact law.of_touches (State.completeAccess_touches _ _ _ _) (by decide)
  · dsimp only
    split
    · exact (taken _).of_touches (State.setMemPort_touches _ _) (by decide)
    · exact ((taken _).of_touches (State.setMemPort_touches _ _) (by decide)).of_touches
        (State.chunkDone_touches _) (by decide)

theorem State.MemoryLaw.wordFailed {s : State} (law : s.MemoryLaw) : s.wordFailed.MemoryLaw := by
  have left : ∀ x, (s.leaveWord x).MemoryLaw := fun x => s.leaveWord_wf x law
  unfold State.wordFailed
  split
  · exact law
  · exact (left _).of_touches (State.completeAccess_touches _ _ _ _) (by decide)
  · exact ((left _).of_touches (State.setMemPort_touches _ _) (by decide)).of_touches
      (State.chunkFailed_touches _) (by decide)

theorem State.MemoryLaw.clock {s : State} (law : s.MemoryLaw) : s.clock.MemoryLaw := by
  have divided : s.clockDivider.MemoryLaw := law.of_touches s.clockDivider_touches (by decide)
  unfold State.clock
  split
  · exact law
  · unfold State.clockWord
    split
    · exact divided
    · exact divided.of_touches (State.setMemPort_touches _ _) (by decide)
    · split
      · exact divided.of_touches (State.setMemPort_touches _ _) (by decide)
      · exact divided.wordFailed

theorem State.MemoryLaw.cutWord {s : State} (law : s.MemoryLaw) : s.cutWord.MemoryLaw := by
  unfold State.cutWord
  split
  · split
    · exact s.leaveWord_wf _ law
    · exact law
  · exact law

theorem State.MemoryLaw.step {s t : State} (law : s.MemoryLaw) (h : step s = .next t) : t.MemoryLaw := by
  have completion := State.memoryLaw_looksAt.completion (by decide)
  refine step_keeps_law State.memoryLaw_looksAt (fun s n c r _ => completion s n c r) ?own ?claim
    (fun _ law => law.clock) law h
  case own =>
    intro c n ps s touched
    cases c <;> exact (Bool.false_ne_true touched).elim
  case claim =>
    intro i s t touched h law
    cases i with
    | mack => cases h; exact law.wordDone
    | merr m => cases h; exact law.wordFailed
    | acknowledgeTimeout => cases h; exact law.wordFailed
    | resetAssert => cases h; exact law.cutWord
    | tick c => cases c <;> exact (Bool.false_ne_true touched).elim
    | _ => exact (Bool.false_ne_true touched).elim

/-! ## The profiles (R53, R159, R161) -/

theorem State.profileLaw_looksAt : LooksAt State.ProfileLaw [.quotas] := by
  intro s t same law
  have quotas : ∀ n, (t.profile n).enabled = (s.profile n).enabled ∧
      (t.profile n).leaseQuota = (s.profile n).leaseQuota ∧ (t.profile n).pageQuota = (s.profile n).pageQuota :=
    same .quotas (by decide)
  refine ⟨(quotas 0).1.trans law.1, fun n => ?_⟩
  obtain ⟨-, leases, pages⟩ := quotas n
  rw [leases, pages]
  exact law.2 n

/-- SET-PROFILE's checks keep agent 0 enabled and the quotas in their ranges (R161). -/
theorem State.ProfileLaw.writeProfile {s : State} (law : s.ProfileLaw) (n : AgentId) (ps : Vector Word 8) :
    (State.writeProfile n ps s).1.ProfileLaw := by
  simp only [State.writeProfile]
  split
  · exact law
  next m _ =>
    split
    · exact law
    · split
      · exact law
      next inRange =>
        split
        · exact law
        · obtain ⟨enabled, range⟩ := not_or.mp inRange
          obtain ⟨leases, pages⟩ := not_or.mp range
          obtain ⟨supervisor, others⟩ := law
          refine ⟨?_, fun k => ?_⟩
          · simp only [granted, State.setReexamine_profile, State.setProfile_profile]
            split
            next zero => simpa [zero] using enabled
            next => exact supervisor
          · simp only [granted, State.setReexamine_profile, State.setProfile_profile]
            split
            · exact ⟨Nat.not_lt.mp leases, Nat.not_lt.mp pages⟩
            · exact others k

theorem State.reset_profileLaw : State.reset.ProfileLaw := ⟨by decide, by decide⟩

theorem State.ProfileLaw.step {s t : State} (law : s.ProfileLaw) (h : step s = .next t) : t.ProfileLaw := by
  have completion := State.profileLaw_looksAt.completion (by decide)
  refine step_keeps_law State.profileLaw_looksAt (fun s n c r _ => completion s n c r) ?own ?claim
    (fun s law => State.profileLaw_looksAt.of_touches s.clock_touches (by decide) law) law h
  case own =>
    intro c n ps s touched _ _ law
    cases c with
    | setProfile => exact completion _ n _ _ (law.writeProfile n ps)
    | _ => exact (Bool.false_ne_true touched).elim
  case claim =>
    intro i s t touched h law
    cases i with
    | resetAssert => cases h; exact State.profileLaw_looksAt.of_reset (by decide) State.reset_profileLaw _
    | tick c => cases c <;> exact (Bool.false_ne_true touched).elim
    | _ => exact (Bool.false_ne_true touched).elim

/-! ## The level-like causes (R42, R120) -/

/-- The number of a cause's bit (R59). -/
def Cause.bit : Cause → Nat
  | .done => 0
  | .grant => 1
  | .warn => 2
  | .lapse => 3
  | .revoked => 4
  | .offerIn => 5
  | .offerOut => 6
  | .fault => 7
  | .scrubFail => 8

theorem Cause.mask_eq_twoPow (c : Cause) : c.mask = BitVec.twoPow 9 c.bit := by cases c <;> decide

theorem Cause.bit_lt (c : Cause) : c.bit < 9 := by cases c <;> decide

theorem Cause.isIn_eq (c : Cause) (x : BitVec 9) : c.isIn x = x.getLsbD c.bit := by
  have nonzero : BitVec.twoPow 9 c.bit ≠ 0 := by cases c <;> decide
  rw [Cause.isIn, Cause.mask_eq_twoPow, BitVec.and_twoPow]
  split
  next set => rw [set]; exact bne_iff_ne.mpr nonzero
  next clear => rw [Bool.eq_false_iff.mpr clear]; rfl

@[simp] theorem Cause.isIn_or (c : Cause) (x y : BitVec 9) : c.isIn (x ||| y) = (c.isIn x || c.isIn y) := by
  rw [c.isIn_eq, c.isIn_eq, c.isIn_eq, BitVec.getLsbD_or]

@[simp] theorem Cause.isIn_and (c : Cause) (x y : BitVec 9) : c.isIn (x &&& y) = (c.isIn x && c.isIn y) := by
  rw [c.isIn_eq, c.isIn_eq, c.isIn_eq, BitVec.getLsbD_and]

@[simp] theorem Cause.isIn_not (c : Cause) (x : BitVec 9) : c.isIn (~~~x) = !c.isIn x := by
  rw [c.isIn_eq, c.isIn_eq, BitVec.getLsbD_not, decide_eq_true c.bit_lt, Bool.true_and]

@[simp] theorem Cause.isIn_mask (c d : Cause) : c.isIn d.mask = decide (c = d) := by cases c <;> cases d <;> decide

@[simp] theorem Cause.isIn_zero (c : Cause) : c.isIn 0 = false := by cases c <;> decide

/-! ### No entry newly FAULTED -/

/-- No entry is FAULTED in t that was not in s. -/
def State.FaultsNone (s t : State) : Prop :=
  ∀ i, (t.entry i).body.isFaulted = true → (s.entry i).body.isFaulted = true

theorem State.FaultsNone.trans {s t u : State} (h : s.FaultsNone t) (k : t.FaultsNone u) : s.FaultsNone u :=
  fun i f => h i (k i f)

theorem State.FaultsNone.of_touches {s t : State} {L : List Aspect} (h : s.Touches L t) (apart : .entries ∉ L) :
    s.FaultsNone t := fun i f => h.entry apart i ▸ f

/-- A move never ends in FAULTED. -/
theorem EntryBody.Turns.notFaulted {f : AgentId → Range → Bool} {a b : EntryBody} (h : a.Turns f b) (_ : a.isFaulted = false) :
    b.isFaulted = false := by
  cases h <;> rfl

theorem State.Turns.faultsNone {s t : State} {f : AgentId → Range → Bool} (h : s.Turns f t) : s.FaultsNone t := by
  intro i f
  refine Decidable.byContradiction fun fresh => ?_
  have kept := h.keeps (P := fun b => b.isFaulted = false) (fun _ _ turn => turn.notFaulted) i
    (Bool.eq_false_iff.mpr fresh)
  exact Bool.false_ne_true (kept.symm.trans f)

theorem State.SetsBody.faultsNone {s t : State} {i : EntryId} {b : EntryBody} (h : s.SetsBody i b t)
    (sound : b.isFaulted = false) : s.FaultsNone t := by
  intro j f
  rw [h j] at f
  split at f
  · exact absurd f (by rw [sound]; decide)
  · exact f

theorem State.EntryStep.faultsNone {s t : State} (h : s.EntryStep t) : s.FaultsNone t := by
  cases h with
  | turns h => exact h.faultsNone
  | grant i n q free may asks h => exact h.faultsNone rfl
  | accept i o n l body may h => exact h.faultsNone rfl

theorem State.anyFaulted_iff (s : State) : s.anyFaulted = true ↔ ∃ i, (s.entry i).body.isFaulted = true := by
  simp only [State.anyFaulted, List.any_eq_true, mem_allEntries, true_and]

theorem State.FaultsNone.anyFaulted {s t : State} (h : s.FaultsNone t) (f : t.anyFaulted = true) :
    s.anyFaulted = true := by
  obtain ⟨i, fi⟩ := t.anyFaulted_iff.mp f
  exact s.anyFaulted_iff.mpr ⟨i, h i fi⟩

/-! ### Causes raised -/

/-- The causes of t are those of s with some more, SCRUB_FAIL not among them, and the latches are those of s. -/
def State.Raises (s t : State) : Prop :=
  ∀ n, (t.profile n).latch = (s.profile n).latch ∧
    ∃ m : BitVec 9, (t.profile n).status = (s.profile n).status ||| m ∧ Cause.scrubFail.isIn m = false

theorem State.Raises.of_causes {s t : State} (h : Aspect.causes.same s t) : s.Raises t := by
  intro n
  obtain ⟨status, latch⟩ := h n
  exact ⟨latch, 0, by rw [status]; exact BitVec.or_zero.symm, rfl⟩

theorem State.Raises.refl (s : State) : s.Raises s := .of_causes (Aspect.same_refl _ s)

theorem State.Raises.of_touches {s t : State} {L : List Aspect} (h : s.Touches L t) (apart : .causes ∉ L) :
    s.Raises t := .of_causes (h .causes apart)

theorem State.Raises.trans {s t u : State} (h : s.Raises t) (k : t.Raises u) : s.Raises u := by
  intro n
  obtain ⟨latch, m, status, fail⟩ := h n
  obtain ⟨latch', m', status', fail'⟩ := k n
  exact ⟨latch'.trans latch, m ||| m', by rw [status', status, BitVec.or_assoc], by simp [fail, fail']⟩

theorem foldl_raises {β : Type} {f : State → β → State} (h : ∀ (s : State) x, s.Raises (f s x)) (l : List β)
    (s : State) : s.Raises (l.foldl f s) :=
  foldl_invariant (P := fun t => s.Raises t) (fun t x ht => ht.trans (h t x)) l s (.refl s)

section
variable (s : State)

theorem State.raise_raises {c : Cause} (other : c ≠ .scrubFail) (n : AgentId) : s.Raises (s.raise c n) := by
  intro m
  rw [State.raise, State.setProfile_profile]
  split
  next eq =>
    subst eq
    exact ⟨rfl, c.mask, rfl, by simp [other.symm]⟩
  next => exact State.Raises.refl s m

theorem State.respond_raises (n : AgentId) (code : BitVec 8) (r : Reply) : s.Raises (s.respond n code r) := by
  by_cases h : (s.port n).window = .executing
  · rw [s.respond_executing code r h]
    have answered : ∀ p, s.Raises (s.setPort n p) := fun p => .of_touches (s.setPort_touches n p) (by decide)
    exact (answered _).trans (State.raise_raises _ (by decide) n)
  · rw [s.respond_discarded code r h]
    exact .refl s

theorem State.resolveWait_raises (w : WaitId) (o : WaitOutcome) : s.Raises (s.resolveWait w o) := by
  unfold State.resolveWait
  split
  next n q d _ =>
    have resolved : ∀ e l, s.Raises ((s.setWait w e).setWaitOrder l) := fun e l =>
      .of_touches ((s.setWait_touches w e).trans (State.setWaitOrder_touches _ l)) (by decide)
    exact (resolved _ _).trans (State.raise_raises _ (by decide) n)
  all_goals exact .refl s

theorem State.examine_raises (w : WaitId) : s.Raises (s.examine w) := by
  unfold State.examine
  split
  · split
    · exact s.resolveWait_raises w _
    · split
      · exact s.resolveWait_raises w _
      · split
        · split
          next i _ =>
            have allocated : ∀ e, s.Raises (s.setEntry i e) := fun e => .of_touches (s.setEntry_touches i e) (by decide)
            exact (allocated _).trans (State.resolveWait_raises _ w _)
          next => exact .refl s
        · exact .refl s
  all_goals exact .refl s

theorem State.tickEntry_raises (i : EntryId) : s.Raises (s.tickEntry i) := by
  have counted : ∀ v, s.Raises (s.setActive i v) := fun v => .of_touches (s.setActive_touches i v) (by decide)
  have retired : ∀ t : State, t.Raises (t.retire i) := fun t => .of_touches (t.retire_touches i) (by decide)
  have raised : ∀ (t : State) {c}, c ≠ .scrubFail → ∀ n, t.Raises (t.raise c n) := fun t _ h n => t.raise_raises h n
  unfold State.tickEntry
  split
  · split
    · exact .refl s
    · dsimp only
      split
      · exact ((counted _).trans (retired _)).trans (raised _ (by decide) _)
      · split
        · exact (counted _).trans (raised _ (by decide) _)
        · exact counted _
  all_goals exact .refl s

theorem State.leaseTick_raises : s.Raises s.leaseTick := by
  unfold State.leaseTick
  split
  · exact .refl s
  next k _ =>
    have due : s.Raises { s with leases := { s.leases with ticksDue := k } } := .of_causes fun _ => ⟨rfl, rfl⟩
    exact due.trans (foldl_raises (fun u i => u.tickEntry_raises i) allEntries _)

theorem State.tickWait_raises (w : WaitId) : s.Raises (s.tickWait w) := by
  unfold State.tickWait
  split
  · split
    · exact s.resolveWait_raises w _
    · exact .of_touches (s.setWait_touches w _) (by decide)
  all_goals exact .refl s

theorem State.waitTick_raises : s.Raises s.waitTick := by
  unfold State.waitTick
  split
  · exact .refl s
  next k _ =>
    have due : s.Raises { s with waits := { s.waits with ticksDue := k } } := .of_causes fun _ => ⟨rfl, rfl⟩
    exact (due.trans (foldl_raises (fun u w => u.tickWait_raises w) allWaits _)).trans
      (.of_touches (State.endPassIfDone_touches _) (by decide))

theorem State.teardownOffer_raises (n : AgentId) (i : EntryId) : s.Raises (State.teardownOffer n s i) := by
  have withdrawn : ∀ v, s.Raises (s.setActive i v) := fun v => .of_touches (s.setActive_touches i v) (by decide)
  unfold State.teardownOffer
  split
  · split
    · exact (withdrawn _).trans (State.raise_raises _ (by decide) _)
    · exact .refl s
  all_goals exact .refl s

end

/-! ### The law -/

theorem State.causeLaw_looksAt : LooksAt State.CauseLaw [.causes, .entries] := by
  intro s t same law
  have causes : ∀ n, (t.profile n).status = (s.profile n).status ∧ (t.profile n).latch = (s.profile n).latch :=
    same .causes (by decide)
  have entries : t.leases.entries = s.leases.entries := same .entries (by decide)
  simpa only [State.CauseLaw, State.anyFaulted, State.entry, entries, causes] using law

theorem State.CauseLaw.of_raises {s t : State} (law : s.CauseLaw) (none_faulted : s.FaultsNone t)
    (raises : s.Raises t) : t.CauseLaw := by
  obtain ⟨fault, fail, others⟩ := law
  refine ⟨fun n valid => ?_, fun faulted => ?_, fun n other => ?_⟩
  · obtain ⟨latch, m, status, -⟩ := raises n
    rw [status, Cause.isIn_or, fault n (latch ▸ valid), Bool.true_or]
  · obtain ⟨-, m, status, -⟩ := raises 0
    rw [status, Cause.isIn_or, fail (none_faulted.anyFaulted faulted), Bool.true_or]
  · obtain ⟨-, m, status, noFail⟩ := raises n
    rw [status, Cause.isIn_or, others n other, noFail, Bool.false_or]

/-- One agent's causes and latch change, and the entries stand. -/
theorem State.CauseLaw.setProfile {s : State} (law : s.CauseLaw) {n : AgentId} {p : Profile}
    (fault : p.latch.isSome = true → Cause.fault.isIn p.status = true)
    (fail : n = 0 → s.anyFaulted = true → Cause.scrubFail.isIn p.status = true)
    (other : n ≠ 0 → Cause.scrubFail.isIn p.status = false) : (s.setProfile n p).CauseLaw := by
  obtain ⟨fault', fail', other'⟩ := law
  refine ⟨fun m valid => ?_, fun faulted => ?_, fun m ne => ?_⟩
  · rw [State.setProfile_profile] at valid ⊢
    split at valid
    next eq => rw [if_pos eq]; exact fault valid
    next ne => rw [if_neg ne]; exact fault' m valid
  · rw [State.setProfile_profile]
    split
    next eq => exact fail eq faulted
    next => exact fail' faulted
  · rw [State.setProfile_profile]
    split
    next eq => exact other fun zero => ne (eq.symm.trans zero)
    next => exact other' m ne

theorem State.CauseLaw.takeReport {s : State} (law : s.CauseLaw) (n : AgentId) (r : FaultReport) :
    (s.takeReport n r).CauseLaw := by
  obtain ⟨-, fail, other⟩ := id law
  refine State.CauseLaw.setProfile law (fun _ => ?_) (fun zero faulted => ?_) fun ne => ?_
  · rw [Cause.isIn_or, Cause.isIn_mask, decide_eq_true rfl, Bool.or_true]
  · rw [Cause.isIn_or, zero, fail faulted, Bool.true_or]
  · rw [Cause.isIn_or, other n ne]
    rfl

theorem State.CauseLaw.readFault {s : State} (law : s.CauseLaw) (n : AgentId) (ps : Vector Word 8) :
    (State.readFault n ps s).1.CauseLaw := by
  obtain ⟨-, fail, other⟩ := id law
  exact State.CauseLaw.setProfile law nofun (fun zero faulted => zero ▸ fail faulted) (other n)

/-- A write to INTSTAT leaves the level-like causes whose condition holds (R170). -/
theorem State.CauseLaw.clearCauses {s : State} (law : s.CauseLaw) (n : AgentId) (v : Word) :
    (s.clearCauses n v).CauseLaw := by
  obtain ⟨fault, fail, other⟩ := id law
  refine State.CauseLaw.setProfile law (fun valid => ?_) (fun zero faulted => ?_) fun ne => ?_
  · have held : Cause.fault.isIn (s.levelHeld n) = true := by
      simp only [State.levelHeld, Cause.isIn_or, if_pos valid, Cause.isIn_mask, decide_true, Bool.true_or]
    rw [Cause.isIn_and, fault n valid, Cause.isIn_not, Cause.isIn_and, Cause.isIn_not, held]
    simp
  · have held : Cause.scrubFail.isIn (s.levelHeld n) = true := by
      simp only [State.levelHeld, Cause.isIn_or, if_pos (And.intro zero faulted), Cause.isIn_mask, decide_true,
        Bool.or_true]
    rw [Cause.isIn_and, zero, fail faulted, Cause.isIn_not, Cause.isIn_and, Cause.isIn_not, ← zero, held]
    simp
  · rw [Cause.isIn_and, other n ne, Bool.false_and]

theorem State.CauseLaw.emptyStatus {s : State} (law : s.CauseLaw) (n : AgentId) : (s.emptyStatus n).CauseLaw := by
  refine State.CauseLaw.setProfile law nofun (fun zero faulted => ?_) fun ne => ?_
  · rw [if_pos ⟨zero, faulted⟩, Cause.isIn_mask, decide_eq_true rfl]
  · rw [if_neg fun h => ne h.1, Cause.isIn_zero]

theorem State.CauseLaw.teardown {s : State} (law : s.CauseLaw) (n : AgentId) : (s.teardown n).CauseLaw := by
  have entries : (s.forEntries (State.teardownEntry n)).CauseLaw := by
    refine law.of_raises (s.teardownEntries_turns s.flying_self n).faultsNone ?_
    refine foldl_raises (fun u i => ?_) allEntries s
    unfold State.teardownEntry
    split
    · exact .of_touches (u.retire_touches i) (by decide)
    · exact .refl u
  have offers := entries.of_raises
    (State.forEntries_turns (f := s.inFlight) (fun u i => u.teardownOffer_turns n i) _).faultsNone
    (foldl_raises (fun u i => u.teardownOffer_raises n i) allEntries _)
  have waits : ∀ u : State, u.CauseLaw → (allWaits.foldl (State.teardownWait n) u).CauseLaw := by
    refine fun u law => foldl_invariant (P := State.CauseLaw) (fun t w law => ?_) allWaits u law
    unfold State.teardownWait
    split
    · exact State.causeLaw_looksAt.of_touches (t.freeWait_touches w) (by decide) law
    · exact law
  have window : ∀ u : State, u.CauseLaw → ((u.teardownWindow n).setReexamine true).CauseLaw := by
    intro u law
    have closed : u.Touches [.windows] (u.teardownWindow n) := u.setPort_touches_windows rfl
    exact State.causeLaw_looksAt.of_touches
      (closed.trans ((State.setReexamine_touches _ true).mono (by decide))) (by decide) law
  exact window _ ((waits _ offers).emptyStatus n)

theorem State.CauseLaw.chunkFailed {s : State} (law : s.CauseLaw) : s.chunkFailed.CauseLaw := by
  have moved : ∀ t : State, t.CauseLaw → t.moveEngine.CauseLaw := fun t law =>
    State.causeLaw_looksAt.of_touches t.moveEngine_touches (by decide) law
  unfold State.chunkFailed
  split
  next => exact moved s law
  next i rest _ =>
    split
    next l _ =>
      refine moved _ ?_
      obtain ⟨fault, -, others⟩ := law
      refine ⟨fun n valid => ?_, fun _ => ?_, fun n other => ?_⟩
      · rw [State.raise, State.setProfile_profile] at valid ⊢
        split at valid
        next eq =>
          rw [if_pos eq, Cause.isIn_or]
          exact Bool.or_eq_true_iff.mpr (.inl (fault 0 valid))
        next ne =>
          rw [if_neg ne]
          exact fault n valid
      · rw [State.raise, State.setProfile_profile, if_pos rfl, Cause.isIn_or, Cause.isIn_mask, decide_eq_true rfl,
          Bool.or_true]
      · rw [State.raise, State.setProfile_profile, if_neg other.symm]
        exact others n other
    next => exact moved s law

theorem State.CauseLaw.wordFailed {s : State} (law : s.CauseLaw) : s.wordFailed.CauseLaw := by
  unfold State.wordFailed
  split
  next => exact law
  next n a _ =>
    refine law.of_raises (s.accessFailed_turns (f := s.inFlight) n a).faultsNone ?_
    rw [State.accessFailed]
    exact (State.Raises.of_touches (s.leaveWord_touches _) (by decide)).trans
      (.of_touches (State.completeAccess_touches _ _ _ _) (by decide))
  next c k _ =>
    have cut : ∀ x m, ((s.leaveWord x).setMemPort m).CauseLaw := fun x m =>
      State.causeLaw_looksAt.of_touches (State.setMemPort_touches _ m) (by decide)
        (State.causeLaw_looksAt.of_touches (s.leaveWord_touches x) (by decide) law)
    exact (cut _ _).chunkFailed

theorem State.CauseLaw.clock {s : State} (law : s.CauseLaw) : s.clock.CauseLaw := by
  have divided : s.clockDivider.CauseLaw :=
    State.causeLaw_looksAt.of_touches s.clockDivider_touches (by decide) law
  unfold State.clock
  split
  · exact law
  · unfold State.clockWord
    split
    · exact divided
    · exact State.causeLaw_looksAt.of_touches (State.setMemPort_touches _ _) (by decide) divided
    · split
      · exact State.causeLaw_looksAt.of_touches (State.setMemPort_touches _ _) (by decide) divided
      · exact divided.wordFailed

/-- What the own effect of each command but FAULT does to the causes. -/
theorem Command.run_raises {c : Command} (other : c ≠ .fault) (n : AgentId) (ps : Vector Word 8) (s : State) :
    s.Raises (c.run n ps s).1 := by
  have kept : ∀ c : Command, .causes ∉ c.footprint → s.Raises (c.run n ps s).1 := fun c apart =>
    .of_touches (c.run_touches n ps s) apart
  have active : ∀ i v, s.Raises (s.setActive i v) := fun i v => .of_touches (s.setActive_touches i v) (by decide)
  cases c with
  | revoke =>
    simp only [Command.run, State.revoke]
    split
    · exact .refl s
    · exact (State.Raises.of_touches (s.retire_touches _) (by decide)).trans (State.raise_raises _ (by decide) _)
  | offer =>
    simp only [Command.run, State.offer]
    split
    · exact .refl s
    · refine State.check_of (.refl s) fun _ => ?_
      split
      · exact .refl s
      · refine State.check_of (.refl s) fun _ => State.check_of (.refl s) fun _ => ?_
        exact (active _ _).trans (State.raise_raises _ (by decide) _)
  | accept =>
    simp only [Command.run, State.accept]
    split
    · exact .refl s
    · refine State.check_of (.refl s) fun _ => State.check_of (.refl s) fun _ => State.check_of (.refl s) fun _ =>
        State.check_of (.refl s) fun _ => ?_
      exact (active _ _).trans (State.raise_raises _ (by decide) _)
  | decline =>
    simp only [Command.run, State.decline]
    split
    · exact .refl s
    · refine State.check_of (.refl s) fun _ => ?_
      exact (active _ _).trans (State.raise_raises _ (by decide) _)
  | fault => exact absurd rfl other
  | _ => exact kept _ (by decide)

theorem State.CauseLaw.windowWrite {s : State} (law : s.CauseLaw) (n : AgentId) (c : WindowCycle) :
    (s.presentWindow n c fun t => t.windowCycle n c).CauseLaw := by
  have kept : ∀ {u v : State} {L : List Aspect}, u.CauseLaw → u.Touches L v → .causes ∉ L → .entries ∉ L → v.CauseLaw :=
    fun law touches causes entries => State.causeLaw_looksAt.of_touches touches
      (by simp only [List.mem_cons, List.not_mem_nil, or_false, forall_eq_or_imp, forall_eq]; exact ⟨causes, entries⟩) law
  have held : ∀ x, (s.setHeldWindow n x).CauseLaw := fun x =>
    kept (L := []) law (s.setPort_touches_nothing rfl rfl rfl) (by decide) (by decide)
  have answered : ∀ (u : State) b, u.CauseLaw → (u.answerWindow n b).CauseLaw := fun u b law =>
    kept law (u.answerWindow_touches n b) (by decide) (by decide)
  have stored : ∀ (u : State) k v, u.CauseLaw → (u.windowStore n k v).CauseLaw := by
    intro u k v law
    unfold State.windowStore
    split
    · exact kept law (u.writeParam_touches n _ v) (by decide) (by decide)
    · split
      · exact kept law (u.writeCommand_touches n v) (by decide) (by decide)
      · split
        · exact law.clearCauses n v
        · split
          · exact kept law (u.writeEnable_touches n v) (by decide) (by decide)
          · exact law
  unfold State.presentWindow
  split
  · exact held _
  · unfold State.windowCycle
    split
    · exact answered _ _ (held _)
    · split
      · exact answered _ _ (stored _ _ _ (held _))
      · exact answered _ _ (held _)

theorem State.reset_causeLaw : State.reset.CauseLaw := ⟨by decide, by decide +kernel, by decide⟩

theorem State.CauseLaw.step {s t : State} (law : s.CauseLaw) (h : step s = .next t) : t.CauseLaw := by
  have freed : ∀ (s : State) n c r, s.CauseLaw → ((s.setJob none).respond n c r).CauseLaw := by
    intro s n c r law
    have touches : (s.setJob none).Touches [.windows, .causes] ((s.setJob none).respond n c r) :=
      State.respond_touches _ n c r
    exact (State.causeLaw_looksAt.of_touches (s.setJob_touches none) (by decide) law).of_raises
      (.of_touches touches (by decide)) (State.respond_raises _ n c r)
  refine step_keeps_law State.causeLaw_looksAt (fun s n c r _ => freed s n c r) ?own ?claim
    (fun _ law => law.clock) law h
  case own =>
    intro c n ps s _ _ _ law
    refine freed _ n _ _ ?_
    by_cases reads : c = .fault
    · subst reads
      exact law.readFault n ps
    · exact law.of_raises (c.run_entryStep s n ps).faultsNone (c.run_raises reads n ps s)
  case claim =>
    intro i s t touched h law
    have moved : s.Turns s.inFlight t → .causes ∉ claimFootprint i → commandOf i = none → i ≠ .badCmd → t.CauseLaw :=
      fun turns apart claim known => law.of_raises turns.faultsNone (.of_touches (exec_touches h claim known) apart)
    cases i with
    | accessDecode n c => exact moved (execAccessDecode_turns h) (by simp only [claimFootprint]; decide) rfl nofun
    | mack =>
      refine moved ?_ (by decide) rfl nofun
      cases h
      exact s.wordDone_turns
    | opening => exact moved (execOpening_turns h) (by decide) rfl nofun
    | noneClaim => exact moved (execNoneClaim_turns h) (by decide) rfl nofun
    | faultReport n =>
      simp only [exec, execFaultReport] at h
      split at h <;> cases h
      · exact law
      next r rest _ =>
        have taken : s.Touches [] (s.setPort n { s.port n with reports := rest }) :=
          s.setPort_touches_nothing rfl rfl rfl
        exact (State.causeLaw_looksAt.of_touches taken (by decide) law).takeReport n r
    | merr m => cases h; exact law.wordFailed
    | acknowledgeTimeout => cases h; exact law.wordFailed
    | passStep =>
      simp only [exec, execPassStep] at h
      split at h
      · split at h <;> cases h
        · exact State.causeLaw_looksAt.of_touches (s.setJob_touches none) (by decide) law
        next w rest _ =>
          have examined := law.of_raises (s.examine_entryStep w).faultsNone (s.examine_raises w)
          refine State.causeLaw_looksAt.of_touches (State.endPassIfDone_touches _) (by decide) ?_
          exact State.causeLaw_looksAt.of_touches (State.setJob_touches _ _) (by decide) examined
      all_goals cases h; exact law
    | teardown =>
      simp only [exec, execTeardown] at h
      split at h
      next n _ =>
        rw [← Host.Outcome.next.inj h]
        exact State.causeLaw_looksAt.of_touches (State.setJob_touches _ none) (by decide) (law.teardown n)
      all_goals cases h; exact law
    | intstatWrite n v =>
      cases h
      unfold State.presentWindow
      have held : ∀ x, (s.setHeldWindow n x).CauseLaw := fun x =>
        State.causeLaw_looksAt.of_touches (L := []) (s.setPort_touches_nothing rfl rfl rfl) (by decide) law
      split
      · exact held _
      · have cleared := (held none).clearCauses n v
        exact State.causeLaw_looksAt.of_touches (State.answerWindow_touches _ n _) (by decide) cleared
    | windowWrite n c =>
      simp only [exec, execWindowWrite] at h
      split at h <;> cases h
      · exact law.windowWrite n _
      · exact law.windowWrite n _
      · exact law
    | tick c =>
      cases c with
      | leaseTable => cases h; exact law.of_raises (s.leaseTick_turns s.flying_self).faultsNone s.leaseTick_raises
      | waitList => cases h; exact law.of_raises (.of_touches s.waitTick_touches (by decide)) s.waitTick_raises
      | _ => exact (Bool.false_ne_true touched).elim
    | expiry =>
      simp only [exec, execExpiry] at h
      split at h <;> cases h
      · exact law.of_raises (s.leaseTick_turns s.flying_self).faultsNone s.leaseTick_raises
      · exact law
    | waitTimeout =>
      simp only [exec, execWaitTimeout] at h
      split at h <;> cases h
      · exact law.of_raises (.of_touches s.waitTick_touches (by decide)) s.waitTick_raises
      · exact law
    | resetAssert => cases h; exact State.causeLaw_looksAt.of_reset (by decide) State.reset_causeLaw _
    | _ => exact (Bool.false_ne_true touched).elim

/-- Settles O60: the causes only grow but where a clearing looks at the level-like conditions, SET-PROFILE checks what it
writes, and every write of the array keeps its list canonical. -/
theorem causesProfilesAndMemoryAreKept : Obligations.CausesProfilesAndMemoryAreKept :=
  fun _ _ h => ⟨fun law => law.step h, fun law => law.step h, fun law => law.step h⟩

end Sys2Proof.Machine
end

section
/-! SUPPORT. R160, R68, R71, R127, R165: the quotas, the overlaps of one agent's leases, and the guard spans. -/

namespace Sys2Proof.Machine

/-! ## A range inside another from the same base -/

/-- Range a is range b, or narrowed from it (R79). -/
def Range.NarrowOf (a b : Range) : Prop := a.base = b.base ∧ a.order ≤ b.order

theorem Range.NarrowOf.refl (r : Range) : r.NarrowOf r := ⟨rfl, Nat.le_refl _⟩

theorem Range.NarrowOf.trans {a b c : Range} (h : a.NarrowOf b) (k : b.NarrowOf c) : a.NarrowOf c :=
  ⟨h.1.trans k.1, Nat.le_trans h.2 k.2⟩

theorem Range.NarrowOf.apart {a b r : Range} (h : a.NarrowOf b) (apart : b.overlaps r = false) :
    a.overlaps r = false := by
  obtain ⟨base, order⟩ := h
  obtain ⟨x, m⟩ := a
  obtain ⟨y, k⟩ := b
  cases base
  exact Bool.eq_false_iff.mpr fun meet => Bool.eq_false_iff.mp apart (Range.overlaps_of_narrowed order meet)

theorem Range.NarrowOf.pages {a b : Range} (h : a.NarrowOf b) : a.pages ≤ b.pages :=
  Nat.pow_le_pow_right (by decide) (Nat.sub_le_sub_right h.2 12)

theorem Range.overlaps_self (r : Range) : r.overlaps r = true := by
  rw [Range.overlaps_iff]
  exact ⟨Nat.le_add_right _ _, Nat.le_add_right _ _⟩

/-! ## What a move does to the claims of an agent -/

/-- What the agent holds ACTIVE after a move, it held so before, over no narrower range. -/
theorem EntryBody.Turns.activeOf {f : AgentId → Range → Bool} {a b : EntryBody} (h : a.Turns f b) {n : AgentId} {k : Lease}
    (e : b.activeOf n = some k) : ∃ l, a.activeOf n = some l ∧ k.range.NarrowOf l.range := by
  have same : ∀ {o : AgentId} {l : Lease} {j : Lease} {t x : Option AgentId},
      (EntryBody.active o j x).activeOf n = some k → j.range.NarrowOf l.range →
        ∃ l', (EntryBody.active o l t).activeOf n = some l' ∧ k.range.NarrowOf l'.range := by
    intro o l j t x e narrow
    simp only [EntryBody.activeOf] at e ⊢
    split at e
    next own => cases e; exact ⟨l, if_pos own, narrow⟩
    next => cases e
  cases h with
  | narrowed narrowable => exact same e ⟨rfl, Lease.order_le_of_narrowable narrowable⟩
  | renewed => exact same e (.refl _)
  | counted => exact same e (.refl _)
  | warned => exact same e (.refl _)
  | reloaded => exact same e (.refl _)
  | opened => exact same e (.refl _)
  | offered => exact same e (.refl _)
  | withdrawn => exact same e (.refl _)
  | freed => cases e
  | retired => cases e
  | expired => cases e
  | drained => cases e
  | retried => cases e

/-- Where an entry has an owner after a move, it had that owner before, over no narrower range. -/
theorem EntryBody.Turns.owner {f : AgentId → Range → Bool} {a b : EntryBody} (h : a.Turns f b) {o : AgentId} {k : Lease}
    (owner : b.owner? = some o) (lease : b.lease? = some k) : ∃ l, a.owner? = some o ∧ a.lease? = some l ∧ k.range.NarrowOf l.range := by
  cases h with
  | narrowed narrowable =>
    cases lease
    exact ⟨_, owner, rfl, rfl, Lease.order_le_of_narrowable narrowable⟩
  | freed => cases owner
  | retried => cases owner
  | _ => cases lease; exact ⟨_, owner, rfl, .refl _⟩

theorem State.Turns.activeOf {s t : State} {f : AgentId → Range → Bool} (h : s.Turns f t) {i : EntryId} {n : AgentId} {k : Lease}
    (e : (t.entry i).body.activeOf n = some k) :
    ∃ l, (s.entry i).body.activeOf n = some l ∧ k.range.NarrowOf l.range := by
  refine h.keeps (P := fun b => ∀ k, b.activeOf n = some k →
    ∃ l, (s.entry i).body.activeOf n = some l ∧ k.range.NarrowOf l.range) ?_ i (fun k e => ⟨k, e, .refl _⟩) k e
  intro a b turn kept k e
  obtain ⟨l, e, narrow⟩ := turn.activeOf e
  obtain ⟨l', e', narrow'⟩ := kept l e
  exact ⟨l', e', narrow.trans narrow'⟩

theorem State.Turns.owner {s t : State} {f : AgentId → Range → Bool} (h : s.Turns f t) {i : EntryId} {o : AgentId} {k : Lease}
    (owner : (t.entry i).body.owner? = some o) (lease : (t.entry i).body.lease? = some k) :
    ∃ l, (s.entry i).body.owner? = some o ∧ (s.entry i).body.lease? = some l ∧ k.range.NarrowOf l.range := by
  refine h.keeps (P := fun b => ∀ k, b.owner? = some o → b.lease? = some k → ∃ l, (s.entry i).body.owner? = some o ∧
    (s.entry i).body.lease? = some l ∧ k.range.NarrowOf l.range) ?_ i (fun k o l => ⟨k, o, l, .refl _⟩) k owner lease
  intro a b turn kept k owner lease
  obtain ⟨l, owner, lease, narrow⟩ := turn.owner owner lease
  obtain ⟨l', owner, lease, narrow'⟩ := kept l owner lease
  exact ⟨l', owner, lease, narrow.trans narrow'⟩

@[simp] theorem EntryBody.activeOf_self (n : AgentId) (l : Lease) (x : Option AgentId) :
    (EntryBody.active n l x).activeOf n = some l := if_pos rfl

/-- The entries in which agent n holds an ACTIVE lease in t, apart from entry i, are those of s. -/
theorem State.SetsBody.activeOf_of_ne {s t : State} {i : EntryId} {b : EntryBody} (h : s.SetsBody i b t) {j : EntryId}
    (ne : i ≠ j) (n : AgentId) : (t.entry j).body.activeOf n = (s.entry j).body.activeOf n := by rw [h j, if_neg ne]

theorem State.SetsBody.body {s t : State} {i : EntryId} {b : EntryBody} (h : s.SetsBody i b t) :
    (t.entry i).body = b := (h i).trans (if_pos rfl)

/-- What a lease event leaves an agent: no ACTIVE lease but those it held, over no wider range; or one new lease, over a
range that it may hold, beside those it held. -/
theorem State.EntryEvent.holdings {s t : State} (h : s.EntryEvent t) (n : AgentId) :
    (∀ i k, (t.entry i).body.activeOf n = some k →
        ∃ l, (s.entry i).body.activeOf n = some l ∧ k.range.NarrowOf l.range) ∨
      ∃ i l, s.MayHold n l.range ∧ (t.entry i).body = .active n l none ∧
        ∀ j, i ≠ j → (t.entry j).body.activeOf n = (s.entry j).body.activeOf n := by
  -- the entry that is set names another agent, or none
  have others : ∀ {i b}, b.activeOf n = none → s.SetsBody i b t → ∀ j k, (t.entry j).body.activeOf n = some k →
      ∃ l, (s.entry j).body.activeOf n = some l ∧ k.range.NarrowOf l.range := by
    intro i b notOwned sets j k e
    by_cases eq : i = j
    · subst eq
      rw [sets.body, notOwned] at e
      cases e
    · exact ⟨k, sets.activeOf_of_ne eq n ▸ e, .refl _⟩
  cases h with
  | leasing h =>
    cases h with
    | turns h => exact .inl fun i k e => h.activeOf e
    | grant i m q free may asks sets =>
      by_cases own : m = n
      · subst own
        exact .inr ⟨i, q.lease, may, sets.body, fun j ne => sets.activeOf_of_ne ne m⟩
      · exact .inl (others (by simp only [EntryBody.activeOf, if_neg own]) sets)
    | accept i o m l body may sets =>
      by_cases own : m = n
      · subst own
        exact .inr ⟨i, l.handedOver, may, sets.body, fun j ne => sets.activeOf_of_ne ne m⟩
      · exact .inl (others (by simp only [EntryBody.activeOf, if_neg own]) sets)
  | fault i l body sets => exact .inl (others rfl sets)

/-! ## The quotas (R160) -/

theorem countP_eq_sum {α : Type} (p : α → Bool) (l : List α) : l.countP p = (l.map fun x => (p x).toNat).sum := by
  induction l with
  | nil => rfl
  | cons x l ih =>
    rw [List.countP_cons, List.map_cons, List.sum_cons, ih, Nat.add_comm]
    cases p x <;> rfl

theorem sum_map_le {α : Type} {f g : α → Nat} {l : List α} (le : ∀ j ∈ l, g j ≤ f j) :
    (l.map g).sum ≤ (l.map f).sum := by
  induction l with
  | nil => exact Nat.le_refl _
  | cons a l ih =>
    rw [List.map_cons, List.map_cons, List.sum_cons, List.sum_cons]
    exact Nat.add_le_add (le a List.mem_cons_self) (ih fun j mem => le j (List.mem_cons_of_mem a mem))

/-- Where one member alone may weigh more, and by no more than c, so does the sum. -/
theorem sum_map_le_add {α : Type} {f g : α → Nat} {i : α} {c : Nat} {l : List α} (nodup : l.Nodup)
    (others : ∀ j, i ≠ j → g j ≤ f j) (single : g i ≤ f i + c) : (l.map g).sum ≤ (l.map f).sum + c := by
  induction l with
  | nil => exact Nat.zero_le _
  | cons a l ih =>
    obtain ⟨fresh, nodup⟩ := List.nodup_cons.mp nodup
    simp only [List.map_cons, List.sum_cons]
    by_cases eq : i = a
    · subst eq
      have rest : (l.map g).sum ≤ (l.map f).sum :=
        sum_map_le fun j mem => others j fun e => fresh (e ▸ mem)
      omega
    · have rest := ih nodup
      have here := others a eq
      omega

/-- The pages that an entry takes from agent n's quota (R160). -/
def EntryBody.pagesOf (b : EntryBody) (n : AgentId) : Nat :=
  match b.activeOf n with
  | some l => l.range.pages
  | none => 0

theorem State.leasesHeld_eq (s : State) (n : AgentId) :
    s.leasesHeld n = (allEntries.map fun i => ((s.entry i).body.activeOf n).isSome.toNat).sum :=
  countP_eq_sum _ _

theorem State.pagesHeld_eq (s : State) (n : AgentId) :
    s.pagesHeld n = (allEntries.map fun i => (s.entry i).body.pagesOf n).sum := rfl

/-- No entry of t takes more from the quotas of agent n than that of s. -/
theorem pagesOf_le {a b : EntryBody} {n : AgentId}
    (h : ∀ k, b.activeOf n = some k → ∃ l, a.activeOf n = some l ∧ k.range.NarrowOf l.range) :
    (b.activeOf n).isSome.toNat ≤ (a.activeOf n).isSome.toNat ∧ b.pagesOf n ≤ a.pagesOf n := by
  unfold EntryBody.pagesOf
  cases e : b.activeOf n with
  | none => exact ⟨Nat.zero_le _, Nat.zero_le _⟩
  | some k =>
    obtain ⟨l, e', narrow⟩ := h k e
    rw [e']
    exact ⟨Nat.le_refl _, narrow.pages⟩

theorem State.EntryEvent.withinQuota {s t : State} (h : s.EntryEvent t) {n : AgentId}
    (within : s.leasesHeld n ≤ (s.profile n).leaseQuota ∧ s.pagesHeld n ≤ (s.profile n).pageQuota) :
    t.leasesHeld n ≤ (s.profile n).leaseQuota ∧ t.pagesHeld n ≤ (s.profile n).pageQuota := by
  rw [t.leasesHeld_eq, t.pagesHeld_eq]
  rcases h.holdings n with fewer | ⟨i, l, ⟨-, quota, -⟩, body, others⟩
  · rw [s.leasesHeld_eq, s.pagesHeld_eq] at within
    have le := fun j => pagesOf_le (fewer j)
    exact ⟨Nat.le_trans (sum_map_le fun j _ => (le j).1) within.1,
      Nat.le_trans (sum_map_le fun j _ => (le j).2) within.2⟩
  · obtain ⟨leases, pages⟩ := quota
    have le : ∀ j, i ≠ j → ((t.entry j).body.activeOf n).isSome.toNat ≤ ((s.entry j).body.activeOf n).isSome.toNat ∧
        (t.entry j).body.pagesOf n ≤ (s.entry j).body.pagesOf n := fun j ne =>
      pagesOf_le fun k e => ⟨k, others j ne ▸ e, .refl _⟩
    refine ⟨Nat.le_trans ?_ leases, Nat.le_trans ?_ pages⟩
    · rw [s.leasesHeld_eq]
      refine sum_map_le_add allEntries_nodup (fun j ne => (le j ne).1) ?_
      exact Nat.le_trans (Bool.toNat_le _) (Nat.le_add_left _ _)
    · rw [s.pagesHeld_eq]
      refine sum_map_le_add allEntries_nodup (fun j ne => (le j ne).2) ?_
      have new : (t.entry i).body.pagesOf n = 2 ^ (l.range.order - 12) := by
        rw [EntryBody.pagesOf, body, EntryBody.activeOf_self]
        rfl
      exact new ▸ Nat.le_add_left _ _

theorem State.quotaLaw_looksAt : LooksAt State.QuotaLaw [.entries, .quotas, .guards] := by
  intro s t same law n
  have entries : t.leases.entries = s.leases.entries := same .entries (by decide)
  obtain ⟨-, leases, pages⟩ : (t.profile n).enabled = (s.profile n).enabled ∧
      (t.profile n).leaseQuota = (s.profile n).leaseQuota ∧ (t.profile n).pageQuota = (s.profile n).pageQuota :=
    same .quotas (by decide) n
  rw [leases, pages]
  simpa only [State.leasesHeld, State.pagesHeld, State.entry, entries] using law n

theorem State.QuotaLaw.of_entryEvent {s t : State} (law : s.QuotaLaw) (h : s.EntryEvent t) {L : List Aspect}
    (touches : s.Touches L t) (apart : .quotas ∉ L) : t.QuotaLaw := by
  intro n
  obtain ⟨-, leases, pages⟩ : (t.profile n).enabled = (s.profile n).enabled ∧
      (t.profile n).leaseQuota = (s.profile n).leaseQuota ∧ (t.profile n).pageQuota = (s.profile n).pageQuota :=
    touches .quotas apart n
  rw [leases, pages]
  exact h.withinQuota (law n)

/-- SET-PROFILE refuses quotas below what the agent holds (R161). -/
theorem State.QuotaLaw.writeProfile {s : State} (law : s.QuotaLaw) (n : AgentId) (ps : Vector Word 8) :
    (State.writeProfile n ps s).1.QuotaLaw := by
  simp only [State.writeProfile]
  split
  · exact law
  next m _ =>
    refine State.check_of law fun _ => State.check_of law fun _ => State.check_of law fun within k => ?_
    obtain ⟨leases, pages⟩ := not_or.mp within
    simp only [granted, State.setReexamine_profile, State.setProfile_profile]
    split
    next eq => subst eq; exact ⟨Nat.not_lt.mp leases, Nat.not_lt.mp pages⟩
    next => exact law k

theorem State.reset_quotaLaw : State.reset.QuotaLaw := by
  unfold State.QuotaLaw
  decide +kernel

/-- SET-GUARD changes no entry and no quota. -/
theorem State.QuotaLaw.writeGuard {s : State} (law : s.QuotaLaw) (n : AgentId) (ps : Vector Word 8) :
    (State.writeGuard n ps s).1.QuotaLaw := by
  simp only [State.writeGuard]
  exact State.check_of law fun _ => State.check_of law fun _ => State.check_of law fun _ => law

/-- Settles O53: a grant and an ACCEPT pass the check of both quotas, SET-PROFILE checks what is held, and nothing else
adds to the holdings. -/
theorem quotasAreKept : Obligations.QuotasAreKept :=
  ⟨State.reset_quotaLaw, fun _ _ law h => step_keeps_entry_law State.quotaLaw_looksAt State.reset_quotaLaw
    (fun _ _ _ event touches quotas _ law => law.of_entryEvent event touches quotas)
    (fun _ n ps law => law.writeProfile n ps) (fun _ n ps law => law.writeGuard n ps) law h⟩

/-! ## One agent's leases (R68, R71, R127) -/

theorem State.selfOverlapLaw_looksAt : LooksAt State.SelfOverlapLaw [.entries, .quotas, .guards] := by
  intro s t same law
  have entries : t.leases.entries = s.leases.entries := same .entries (by decide)
  simpa only [State.SelfOverlapLaw, State.entry, entries] using law

theorem State.SelfOverlapLaw.of_entryEvent {s t : State} (law : s.SelfOverlapLaw) (h : s.EntryEvent t) :
    t.SelfOverlapLaw := by
  intro n
  rcases h.holdings n with fewer | ⟨i, new, ⟨-, -, noOverlap⟩, body, others⟩
  · intro i j ne l k hl hk
    obtain ⟨l', el, narrow⟩ := fewer i l hl
    obtain ⟨k', ek, narrow'⟩ := fewer j k hk
    refine narrow.apart ?_
    rw [Range.overlaps_comm]
    refine narrow'.apart ?_
    rw [Range.overlaps_comm]
    exact law n i j ne l' k' el ek
  · intro a b ne l k hl hk
    by_cases ha : i = a
    · subst ha
      rw [body, EntryBody.activeOf_self] at hl
      rw [others b ne] at hk
      cases hl
      rw [Range.overlaps_comm]
      exact noOverlap b k hk
    · rw [others a ha] at hl
      by_cases hb : i = b
      · subst hb
        rw [body, EntryBody.activeOf_self] at hk
        cases hk
        exact noOverlap a l hl
      · rw [others b hb] at hk
        exact law n a b ne l k hl hk

theorem State.reset_selfOverlapLaw : State.reset.SelfOverlapLaw := by
  intro n i j ne l k hl hk
  by_cases hi : i = 0
  · rw [State.reset_entry_of_ne fun hj => ne (hi.trans hj.symm)] at hk
    cases hk
  · rw [State.reset_entry_of_ne hi] at hl
    cases hl

/-! ## The guard spans (R165) -/

theorem State.guardLaw_looksAt : LooksAt State.GuardLaw [.entries, .quotas, .guards] := by
  intro s t same law
  have entries : t.leases.entries = s.leases.entries := same .entries (by decide)
  have guards : t.guards = s.guards := same .guards (by decide)
  simpa only [State.GuardLaw, State.entry, State.guard, entries, guards] using law

theorem State.GuardLaw.of_entryEvent {s t : State} (law : s.GuardLaw) (h : s.EntryEvent t) {L : List Aspect}
    (touches : s.Touches L t) (apart : .guards ∉ L) : t.GuardLaw := by
  have guards : t.guards = s.guards := touches .guards apart
  intro j g enabled o l owner other lease
  rw [State.guard, guards] at enabled ⊢
  -- where entry i is set to an ACTIVE one of an agent that may hold it
  have set : ∀ {i : EntryId} {n : AgentId} {k : Lease}, s.MayHold n k.range → s.SetsBody i (.active n k none) t →
      (s.guard g).range.overlaps l.range = false := by
    intro i n k may sets
    by_cases eq : i = j
    · subst eq
      rw [sets.body] at owner lease
      cases owner
      cases lease
      exact (may.1.resolve_left other) g enabled
    · rw [sets j, if_neg eq] at owner lease
      exact law j g enabled o l owner other lease
  cases h with
  | leasing h =>
    cases h with
    | turns h =>
      obtain ⟨k, owner, lease, narrow⟩ := h.owner owner lease
      rw [Range.overlaps_comm]
      refine narrow.apart ?_
      rw [Range.overlaps_comm]
      exact law j g enabled o k owner other lease
    | grant i n q free may asks sets => exact set (k := q.lease) may sets
    | accept i o n l body may sets => exact set (k := l.handedOver) may sets
  | fault i k body sets =>
    by_cases eq : i = j
    · subst eq
      rw [sets.body] at owner
      cases owner
    · rw [sets j, if_neg eq] at owner lease
      exact law j g enabled o l owner other lease

theorem State.othersHold_of_owner {s : State} {r : Range} {i : EntryId} {o : AgentId} {l : Lease}
    (owner : (s.entry i).body.owner? = some o) (other : o ≠ 0) (lease : (s.entry i).body.lease? = some l)
    (meet : l.range.overlaps r = true) : s.othersHold r = true := by
  refine List.any_eq_true.mpr ⟨i, mem_allEntries i, ?_⟩
  simp only [owner, lease, meet, Bool.and_true]
  exact bne_iff_ne.mpr other

/-- SET-GUARD enables no span that another agent's entry overlaps (R166). -/
theorem State.GuardLaw.writeGuard {s : State} (law : s.GuardLaw) (n : AgentId) (ps : Vector Word 8) :
    (State.writeGuard n ps s).1.GuardLaw := by
  simp only [State.writeGuard]
  refine State.check_of law fun _ => State.check_of law fun _ => State.check_of law fun noConflict => ?_
  intro i g enabled o l owner other lease
  simp only [granted, State.setReexamine_guard, State.setGuard_guard] at enabled ⊢
  split at enabled
  next eq =>
    rw [if_pos eq, Range.overlaps_comm]
    refine Decidable.byContradiction fun meet => ?_
    refine noConflict (Bool.and_eq_true_iff.mpr ⟨enabled, ?_⟩)
    exact State.othersHold_of_owner owner other lease (Bool.not_eq_false _ ▸ meet)
  next ne =>
    rw [if_neg ne]
    exact law i g enabled o l owner other lease

theorem State.GuardLaw.writeProfile {s : State} (law : s.GuardLaw) (n : AgentId) (ps : Vector Word 8) :
    (State.writeProfile n ps s).1.GuardLaw := by
  simp only [State.writeProfile]
  split
  · exact law
  · exact State.check_of law fun _ => State.check_of law fun _ => State.check_of law fun _ => law

theorem State.reset_guardLaw : State.reset.GuardLaw := by
  have disabled : ∀ g, (State.reset.guard g).enabled = false := by decide
  intro i g enabled
  rw [disabled g] at enabled
  cases enabled

theorem State.SelfOverlapLaw.writeGuard {s : State} (law : s.SelfOverlapLaw) (n : AgentId) (ps : Vector Word 8) :
    (State.writeGuard n ps s).1.SelfOverlapLaw := by
  simp only [State.writeGuard]
  exact State.check_of law fun _ => State.check_of law fun _ => State.check_of law fun _ => law

theorem State.SelfOverlapLaw.writeProfile {s : State} (law : s.SelfOverlapLaw) (n : AgentId) (ps : Vector Word 8) :
    (State.writeProfile n ps s).1.SelfOverlapLaw := by
  simp only [State.writeProfile]
  split
  · exact law
  · exact State.check_of law fun _ => State.check_of law fun _ => State.check_of law fun _ => law

/-- Settles O54: a grant and an ACCEPT pass both checks, SET-GUARD checks what the others hold, and nothing else widens
a range or gives it to another agent. -/
theorem selfOverlapAndGuardsAreKept : Obligations.SelfOverlapAndGuardsAreKept := by
  intro s t overlap guard h
  constructor
  · exact step_keeps_entry_law State.selfOverlapLaw_looksAt State.reset_selfOverlapLaw
      (fun _ _ _ event _ _ _ law => law.of_entryEvent event)
      (fun _ n ps law => law.writeProfile n ps) (fun _ n ps law => law.writeGuard n ps) overlap h
  · exact step_keeps_entry_law State.guardLaw_looksAt State.reset_guardLaw
      (fun _ _ _ event touches _ guards law => law.of_entryEvent event touches guards)
      (fun _ n ps law => law.writeProfile n ps) (fun _ n ps law => law.writeGuard n ps) guard h

end Sys2Proof.Machine
end

section
/-! SUPPORT. R1, R2, R5, R11, R12, R64, R140, R142: the fields of leases and requests, the countdowns, and the owners of
PINNED leases. -/

namespace Sys2Proof.Machine

/-! ## What an entry and a wait entry have to be -/

/-- The fields and the countdown of a lease are sound. -/
def Lease.Fit (l : Lease) : Prop := l.Sound ∧ ∀ m c, l.life = .timed m c → c.Sound

/-- An ACTIVE entry has ticks left if it counts, is agent 0's and not offered if it is PINNED, and is offered to no
owner of its own. -/
def Lease.FitsOwner (l : Lease) (o : AgentId) (t : Option AgentId) : Prop :=
  (∀ m c, l.life = .timed m c → 1 ≤ c.remaining) ∧ (l.life = .pinned → o = 0 ∧ t = none) ∧ t ≠ some o

/-- What the laws ask of the body of an entry. -/
def EntryBody.Fit : EntryBody → Prop
  | .free => True
  | .active o l t => l.Fit ∧ l.FitsOwner o t
  | .retiring _ l _ => l.Fit
  | .faulted l => l.Fit

/-- What the laws ask of a request that agent n makes. -/
def Request.Fit (q : Request) (n : AgentId) : Prop :=
  q.valid = true ∧ (∀ m term warn, q.life = .timed m term warn → warn < term ∧ term < 2 ^ 16) ∧
    (q.life = .pinned → n = 0)

/-- What the laws ask of the body of a wait entry. -/
def WaitBody.Fit : WaitBody → Prop
  | .free => True
  | .waiting n q d => q.Fit n ∧ ∀ k, d = some k → 1 ≤ k ∧ k < 2 ^ 16
  | .resolved _ q _ => q.valid = true

/-- The laws on leases and requests, entry by entry. -/
def State.Fit (s : State) : Prop := (∀ i, (s.entry i).body.Fit) ∧ ∀ w, (s.wait w).body.Fit

theorem State.fit_iff (s : State) : s.Fit ↔ s.FieldLaw ∧ s.CountdownLaw ∧ s.OwnerLaw := by
  constructor
  · rintro ⟨entries, waits⟩
    refine ⟨⟨fun i l e => ?_, fun w => ?_⟩, ⟨fun i l m c e life => ?_, fun i o l t m c e life => ?_,
      fun w n q d e => ?_⟩, fun i => ?_, fun w => ?_⟩
    · have fit := entries i
      cases body : (s.entry i).body with
      | free => rw [body] at e; cases e
      | active o k t => rw [body] at e fit; cases e; exact fit.1.1
      | retiring o k d => rw [body] at e fit; cases e; exact fit.1
      | faulted k => rw [body] at e fit; cases e; exact fit.1
    · have fit := waits w
      cases body : (s.wait w).body with
      | free => trivial
      | waiting n q d => rw [body] at fit; exact fit.1.1
      | resolved n q o => rw [body] at fit; exact fit
    · have fit := entries i
      cases body : (s.entry i).body with
      | free => rw [body] at e; cases e
      | active o k t => rw [body] at e fit; cases e; exact fit.1.2 m c life
      | retiring o k d => rw [body] at e fit; cases e; exact fit.2 m c life
      | faulted k => rw [body] at e fit; cases e; exact fit.2 m c life
    · have fit := entries i
      rw [e] at fit
      exact fit.2.1 m c life
    · have fit := waits w
      rw [e] at fit
      exact ⟨fit.1.2.1, fit.2⟩
    · have fit := entries i
      cases body : (s.entry i).body with
      | active o k t => rw [body] at fit; exact fit.2.2
      | _ => trivial
    · have fit := waits w
      cases body : (s.wait w).body with
      | waiting n q d => rw [body] at fit; exact fit.1.2.2
      | _ => trivial
  · rintro ⟨⟨fields, requests⟩, ⟨counts, left, waits⟩, owners, pinned⟩
    refine ⟨fun i => ?_, fun w => ?_⟩
    · have fit : ∀ l, (s.entry i).body.lease? = some l → l.Fit := fun l e =>
        ⟨fields i l e, fun m c life => counts i l m c e life⟩
      have owner := owners i
      cases body : (s.entry i).body with
      | free => trivial
      | active o l t =>
        rw [body] at fit owner
        exact ⟨fit l rfl, fun m c life => left i o l t m c body life, owner⟩
      | retiring o l d => rw [body] at fit; exact fit l rfl
      | faulted l => rw [body] at fit; exact fit l rfl
    · have request := requests w
      have pinned := pinned w
      cases body : (s.wait w).body with
      | free => trivial
      | waiting n q d =>
        rw [body] at request pinned
        obtain ⟨terms, deadline⟩ := waits w n q d body
        exact ⟨⟨request, terms, pinned⟩, deadline⟩
      | resolved n q o => rw [body] at request; exact request

theorem EntryBody.Fit.lease {b : EntryBody} (h : b.Fit) {l : Lease} (e : b.lease? = some l) : l.Fit := by
  cases b with
  | free => cases e
  | active o k t => cases e; exact h.1
  | retiring o k d => cases e; exact h
  | faulted k => cases e; exact h

/-! ## Countdowns -/

/-- A countdown just set (R7, R76). -/
theorem Countdown.sound_of_fresh {term warn : Nat} (below : warn < term) (bounded : term < 2 ^ 16) :
    Countdown.Sound { term := term, warn := warn, remaining := term, warned := false } :=
  ⟨below, bounded, Nat.le_refl _, nofun, fun ⟨_, le⟩ => absurd below (Nat.not_lt.mpr le)⟩

theorem Countdown.Sound.reload {c : Countdown} (h : c.Sound) :
    Countdown.Sound { c with remaining := c.term, warned := false } := Countdown.sound_of_fresh h.1 h.2.1

/-- A countdown of one tick less, above Warn still or at it or past it already (R139). -/
theorem Countdown.Sound.count {c : Countdown} (h : c.Sound) (left : 1 ≤ c.remaining)
    (noWarning : c.remaining - 1 ≠ c.warn ∨ c.remaining - 1 = 0) :
    Countdown.Sound { c with remaining := c.remaining - 1, warned := c.warned } := by
  obtain ⟨below, bounded, le, warned⟩ := h
  refine ⟨below, bounded, Nat.le_trans (Nat.sub_le _ _) le, warned.trans ?_⟩
  dsimp only
  omega

/-- A countdown that comes to Warn (R140). -/
theorem Countdown.Sound.warn {c : Countdown} (h : c.Sound) (more : c.remaining - 1 ≠ 0)
    (warning : c.remaining - 1 = c.warn) :
    Countdown.Sound { c with remaining := c.remaining - 1, warned := true } := by
  obtain ⟨below, bounded, le, -⟩ := h
  refine ⟨below, bounded, Nat.le_trans (Nat.sub_le _ _) le, fun _ => ⟨?_, ?_⟩, fun _ => rfl⟩
  · exact warning ▸ more
  · exact Nat.le_of_eq warning

theorem Countdown.Sound.term_pos {c : Countdown} (h : c.Sound) : 1 ≤ c.term := Nat.one_le_of_lt h.1

/-! ## Leases -/

/-- Another life of the same kind, with a sound countdown. -/
theorem Lease.Fit.withLife {l : Lease} (h : l.Fit) {x : Life} (pinned : x = .pinned → l.life = .pinned)
    (counts : ∀ m c, x = .timed m c → c.Sound) : Lease.Fit { l with life := x } := by
  obtain ⟨⟨range, rights, shared, slotless, scrub⟩, -⟩ := h
  exact ⟨⟨range, rights, shared, fun e => slotless (pinned e), scrub⟩, counts⟩

theorem Life.renewed_countdown {x : Life} {y : Option (Nat × Nat)} {m : Timed} {c : Countdown}
    (old : ∀ m c, x = .timed m c → c.Sound) (renewable : x.renewable y = true) (bounded : ∀ z ∈ y, z.1 < 2 ^ 16)
    (e : x.renew y = .timed m c) : c.Sound ∧ 1 ≤ c.remaining := by
  cases x with
  | pinned => cases e
  | timed k d =>
    have sound := old k d rfl
    cases y with
    | none => cases e; exact ⟨sound.reload, sound.term_pos⟩
    | some z =>
      cases e
      simp only [Life.renewable, termValid, Bool.and_eq_true, decide_eq_true_eq] at renewable
      obtain ⟨⟨pos, below⟩, -⟩ := renewable
      exact ⟨Countdown.sound_of_fresh below (bounded z rfl), pos⟩

theorem Life.renew_pinned_iff (x : Life) (y : Option (Nat × Nat)) : x.renew y = .pinned ↔ x = .pinned := by
  cases x with
  | pinned => exact ⟨fun _ => rfl, fun _ => rfl⟩
  | timed m c => cases y <;> exact ⟨nofun, nofun⟩

theorem Life.reload_eq (x : Life) : x.reload = x.renew none := by cases x <;> rfl

theorem Life.reloadByAccess_eq (x : Life) :
    x.reloadByAccess = match x with | .timed .activity _ => x.reload | _ => x := by
  rcases x with _ | ⟨_ | _, c⟩ <;> rfl

theorem Lease.Fit.narrow {l : Lease} (h : l.Fit) {order : Nat} {rights : Rights}
    (narrowable : l.narrowable order rights = true) :
    Lease.Fit { l with rights := rights, range := { l.range with order := order } } := by
  obtain ⟨⟨range, -, shared, slotless, scrub⟩, counts⟩ := h
  simp only [Lease.narrowable, Bool.and_eq_true, decide_eq_true_eq, Bool.not_eq_true'] at narrowable
  obtain ⟨⟨⟨⟨⟨low, -⟩, le⟩, nonempty⟩, subset⟩, -⟩ := narrowable
  refine ⟨⟨Range.valid_of_narrowed range low le, nonempty, fun e => ?_, slotless, scrub⟩, counts⟩
  have unwritable := shared e
  simp only [Rights.subset, Bool.and_eq_true, Bool.or_eq_true, Bool.not_eq_true'] at subset
  obtain ⟨⟨-, write⟩, -⟩ := subset
  exact write.resolve_right (Bool.eq_false_iff.mp unwritable)

/-! ## The moves of an entry -/

theorem EntryBody.Turns.fit {f : AgentId → Range → Bool} {a b : EntryBody} (h : a.Turns f b) (fit : a.Fit) : b.Fit := by
  cases h with
  | freed => trivial
  | retired => exact fit.1
  | drained => exact fit
  | retried => exact fit
  | expired life last =>
    obtain ⟨lease, left, -⟩ := fit
    refine lease.withLife nofun fun m c e => ?_
    have sound := (lease.2 _ _ life).count (left _ _ life) (.inr last)
    rw [last] at sound
    cases e
    exact sound
  | @renewed o l t x renewable bounded =>
    obtain ⟨lease, left, pinned, -⟩ := fit
    have counts := fun m c => Life.renewed_countdown (m := m) (c := c) lease.2 renewable bounded
    have still := (Life.renew_pinned_iff l.life x).mp
    exact ⟨lease.withLife still fun m c e => (counts m c e).1, fun m c e => (counts m c e).2,
      fun e => ⟨(pinned (still e)).1, rfl⟩, nofun⟩
  | narrowed narrowable =>
    obtain ⟨lease, left, pinned, -⟩ := fit
    exact ⟨lease.narrow narrowable, left, fun e => ⟨(pinned e).1, rfl⟩, nofun⟩
  | counted life more noWarning =>
    obtain ⟨lease, left, pinned, ne⟩ := fit
    have sound := (lease.2 _ _ life).count (left _ _ life) (.inl noWarning)
    refine ⟨lease.withLife nofun fun m c e => ?_, fun m c e => ?_, nofun, ne⟩
    · cases e; exact sound
    · cases e; exact Nat.one_le_iff_ne_zero.mpr more
  | warned life more warning =>
    obtain ⟨lease, left, pinned, ne⟩ := fit
    have sound := (lease.2 _ _ life).warn more warning
    refine ⟨lease.withLife nofun fun m c e => ?_, fun m c e => ?_, nofun, ne⟩
    · cases e; exact sound
    · cases e; exact Nat.one_le_iff_ne_zero.mpr more
  | @reloaded o l t =>
    obtain ⟨lease, left, pinned, ne⟩ := fit
    rw [Life.reloadByAccess_eq]
    split
    next c life =>
      have counts := fun m d => Life.renewed_countdown (y := none) (m := m) (c := d) lease.2 rfl nofun
      rw [Life.reload_eq]
      have still := (Life.renew_pinned_iff l.life none).mp
      exact ⟨lease.withLife still fun m c e => (counts m c e).1, fun m c e => (counts m c e).2,
        fun e => pinned (still e), ne⟩
    next => exact ⟨lease, left, pinned, ne⟩
  | opened slotted =>
    obtain ⟨⟨⟨range, rights, shared, slotless, scrub⟩, counts⟩, left, pinned, ne⟩ := fit
    refine ⟨⟨⟨range, rights, shared, fun e => ?_, fun e => ?_⟩, counts⟩, left, pinned, ne⟩
    · rw [slotless e] at slotted; cases slotted
    · rw [(scrub e).2] at slotted; cases slotted
  | offered other counts =>
    obtain ⟨lease, left, pinned, -⟩ := fit
    exact ⟨lease, left, fun e => absurd e counts, fun e => other (Option.some.inj e)⟩
  | withdrawn =>
    obtain ⟨lease, left, pinned, -⟩ := fit
    exact ⟨lease, left, fun e => ⟨(pinned e).1, rfl⟩, nofun⟩

/-! ## Grants and transfers -/

theorem Request.Fit.lease {q : Request} {n : AgentId} (h : q.Fit n) : (EntryBody.active n q.lease none).Fit := by
  obtain ⟨valid, terms, pinned⟩ := h
  simp only [Request.valid, Bool.and_eq_true, Bool.not_eq_true', Bool.and_eq_false_iff, Bool.or_eq_false_iff] at valid
  obtain ⟨⟨⟨⟨range, rights⟩, shared⟩, life⟩, scrub⟩ := valid
  have counts : ∀ m c, q.lease.life = .timed m c → c.Sound ∧ 1 ≤ c.remaining := by
    intro m c e
    cases life : q.life with
    | pinned => simp only [Request.lease, life] at e; cases e
    | timed k term warn =>
      simp only [Request.lease, life] at e
      obtain ⟨below, bounded⟩ := terms k term warn life
      cases e
      exact ⟨Countdown.sound_of_fresh below bounded, Nat.one_le_of_lt below⟩
  have still : q.lease.life = .pinned → q.life = .pinned := by
    cases life : q.life with
    | pinned => exact fun _ => rfl
    | timed k term warn => simp only [Request.lease, life]; exact nofun
  have noSlot : q.phase = none → q.lease.slot = none := fun e => by simp only [Request.lease, e, Option.map_none]
  refine ⟨⟨⟨range, rights, fun e => ?_, fun e => noSlot ?_, fun e => ?_⟩, fun m c e => (counts m c e).1⟩,
    fun m c e => (counts m c e).2, fun e => ⟨pinned (still e), rfl⟩, nofun⟩
  · exact shared.resolve_left fun ne => by simp [show q.share = .sharedRead from e] at ne
  · rw [still e] at life
    exact Option.isNone_iff_eq_none.mp life
  · obtain ⟨share, phase⟩ := scrub.resolve_left fun ne => by simp [show q.disposition = .scrub from e] at ne
    have exclusive : q.share = .exclusive := by simpa using share
    exact ⟨exclusive, noSlot (by simpa using phase)⟩

theorem Lease.Fit.handedOver {l : Lease} (h : l.Fit) {o n : AgentId} (owner : l.FitsOwner o (some n)) :
    (EntryBody.active n l.handedOver none).Fit := by
  obtain ⟨-, pinned, -⟩ := owner
  have counting : l.life ≠ .pinned := fun e => nomatch (pinned e).2
  have counts := fun m c => Life.renewed_countdown (y := none) (m := m) (c := c) h.2 rfl nofun
  have still : l.handedOver.life ≠ .pinned := fun e =>
    counting ((Life.renew_pinned_iff _ none).mp ((Life.reload_eq _).symm.trans e))
  obtain ⟨⟨range, rights, shared, -, scrub⟩, -⟩ := h
  have unslotted : l.slot = none → l.handedOver.slot = none := fun e => by
    simp only [Lease.handedOver, e, Option.map_none]
  have counts' : ∀ m c, l.handedOver.life = .timed m c → c.Sound ∧ 1 ≤ c.remaining := fun m c e =>
    counts m c ((Life.reload_eq _).symm.trans e)
  exact ⟨⟨⟨range, rights, shared, fun e => absurd e still, fun e => ⟨(scrub e).1, unslotted (scrub e).2⟩⟩,
    fun m c e => (counts' m c e).1⟩, fun m c e => (counts' m c e).2, fun e => absurd e still, nofun⟩

/-- A valid ACQUIRE spells a request as the laws ask (R64, R65). -/
theorem Request.fit_of_decode {ps : Vector Word 8} {q : Request} {n : AgentId} (decoded : decodeRequest ps = some q)
    (valid : q.valid = true) (pinned : q.life = .pinned → n = 0) : q.Fit n := by
  refine ⟨valid, fun m term warn life => ?_, pinned⟩
  have termsValid : termValid term warn = true := by
    simp only [Request.valid, Bool.and_eq_true, life] at valid
    exact valid.1.2
  have below : warn < term := (of_decide_eq_true termsValid).2
  obtain ⟨-, -, -, -, -, -, -, spelled, -⟩ := Request.readFrom_iff.mpr decoded
  rw [life] at spelled
  rcases spelled with ⟨e, -⟩ | ⟨e, -⟩ | ⟨e, -⟩
  · cases e; exact ⟨below, field_lt ps[4] 0 16⟩
  · cases e; exact ⟨below, field_lt ps[4] 0 16⟩
  · cases e

theorem State.Asks.fit {s : State} (waits : ∀ w, (s.wait w).body.Fit) {n : AgentId} {q : Request} (h : s.Asks n q) :
    q.Fit n := by
  rcases h with ⟨ps, decoded, valid, pinned⟩ | ⟨w, d, body⟩
  · exact Request.fit_of_decode decoded valid pinned
  · have fit := waits w
    rw [body] at fit
    exact fit.1

/-- What an event makes of the entries. -/
theorem State.Fit.entryEvent {s t : State} (fit : s.Fit) (h : s.EntryEvent t) (i : EntryId) : (t.entry i).body.Fit := by
  obtain ⟨entries, waits⟩ := fit
  have set : ∀ {j b}, b.Fit → s.SetsBody j b t → (t.entry i).body.Fit := by
    intro j b new sets
    rw [sets i]
    split
    · exact new
    · exact entries i
  cases h with
  | leasing h =>
    cases h with
    | turns h => exact h.keeps (fun _ _ turn => turn.fit) i (entries i)
    | grant j n q free may asks sets => exact set (asks.fit waits).lease sets
    | accept j o n l body may sets =>
      have old := entries j
      rw [body] at old
      exact set (old.1.handedOver old.2) sets
  | fault j l body sets => exact set (b := .faulted l) ((entries j).lease body) sets

/-! ## The moves of the Wait List -/

/-- What can befall the Wait List in one operation: a wait entry is freed, resolved, counted down or made of a request;
or what happens does not concern it. -/
inductive State.WaitMove (s : State) : State → Prop where
  | freed (w : WaitId) : WaitMove s (s.freeWait w)
  | resolved (w : WaitId) (o : WaitOutcome) : WaitMove s (s.resolveWait w o)
  /-- A deadline goes down by one, and not to 0 (R87). -/
  | counted {w : WaitId} {n : AgentId} {q : Request} {d : Nat} (body : (s.wait w).body = .waiting n q (some d))
      (more : d - 1 ≠ 0) :
      WaitMove s (s.setWait w { gen := (s.wait w).gen, body := .waiting n q (some (d - 1)) })
  /-- A request is queued (R72, R83). -/
  | queued {w : WaitId} {n : AgentId} {q : Request} {d : Option Nat} (free : (s.wait w).body = .free)
      (room : s.waitsHeld n < 4) (fit : q.Fit n) (deadline : ∀ k, d = some k → 1 ≤ k ∧ k < 2 ^ 16) :
      WaitMove s (s.queueWait w n q d)
  | apart {t : State} (same : Aspect.waiting.same s t) : WaitMove s t

/-- Any number of such operations, one after another. -/
def State.WaitEvent : State → State → Prop := Moves State.WaitMove

theorem State.WaitEvent.single {s t : State} (h : s.WaitMove t) : s.WaitEvent t := Moves.single h

theorem State.WaitEvent.refl (s : State) : s.WaitEvent s := Moves.refl

theorem State.WaitEvent.trans {s t u : State} (h : s.WaitEvent t) (k : t.WaitEvent u) : s.WaitEvent u :=
  Moves.trans h k

theorem State.WaitEvent.of_touches {s t : State} {L : List Aspect} (h : s.Touches L t) (apart : .waiting ∉ L) :
    s.WaitEvent t := .single (.apart (h .waiting apart))

/-- What each move keeps, all of them keep. -/
theorem State.WaitEvent.keeps {P : State → Prop} (step : ∀ s t, s.WaitMove t → P s → P t) {s t : State}
    (h : s.WaitEvent t) (p : P s) : P t := by
  induction h with
  | refl => exact p
  | tail _ move ih => exact step _ _ move ih

theorem foldl_waitEvent {β : Type} {f : State → β → State} (h : ∀ (s : State) x, s.WaitEvent (f s x)) (l : List β)
    (s : State) : s.WaitEvent (l.foldl f s) :=
  foldl_invariant (P := fun t => s.WaitEvent t) (fun t x ht => ht.trans (h t x)) l s (.refl s)

theorem deadlineField_bounded (ps : Vector Word 8) (k : Nat) (h : deadlineField ps = some k) :
    1 ≤ k ∧ k < 2 ^ 16 := by
  have below : field ps[6] 0 16 < 2 ^ 16 := field_lt ps[6] 0 16
  simp only [deadlineField] at h
  split at h
  · cases h
  next nonzero =>
    cases h
    exact ⟨Nat.one_le_iff_ne_zero.mpr nonzero, below⟩

theorem State.firstFreeWait_free {s : State} {w : WaitId} (h : s.firstFreeWait = some w) : (s.wait w).body = .free :=
  (WaitBody.isFree_iff _).mp (List.find?_some (p := fun w => (s.wait w).body.isFree) h)

section
variable (s : State)

theorem State.queueOr_waitEvent {n : AgentId} {q : Request} (fit : q.Fit n) (ps : Vector Word 8) (st : StatusCode) :
    s.WaitEvent (s.queueOr n q ps st).1 := by
  unfold State.queueOr
  split
  · split
    next w free =>
      split
      next room => exact .single (.queued (State.firstFreeWait_free free) room fit (deadlineField_bounded ps))
      next => exact .refl s
    next => exact .refl s
  · exact .refl s

theorem State.acquire_waitEvent (n : AgentId) (ps : Vector Word 8) : s.WaitEvent (State.acquire n ps s).1 := by
  unfold State.acquire
  split
  next => exact .refl s
  next q decoded =>
    refine State.check_of (.refl s) fun valid => State.check_of (.refl s) fun admitted =>
      State.check_of (.refl s) fun _ => State.check_of (.refl s) fun _ => State.check_of (.refl s) fun _ => ?_
    have pinned : q.life = .pinned → n = 0 := fun life => Classical.byContradiction fun other =>
      admitted (by simp [life, other])
    have fit := Request.fit_of_decode decoded (by simpa using valid) pinned
    split
    · exact s.queueOr_waitEvent fit ps .conflict
    · split
      · exact s.queueOr_waitEvent fit ps .tableFull
      next i _ => exact .of_touches (s.setEntry_touches i _) (by decide)

theorem Command.run_waitEvent (c : Command) (n : AgentId) (ps : Vector Word 8) : s.WaitEvent (c.run n ps s).1 := by
  have kept : ∀ c : Command, .waiting ∉ c.footprint → s.WaitEvent (c.run n ps s).1 := fun c apart =>
    .of_touches (c.run_touches n ps s) apart
  cases c with
  | acquire => exact s.acquire_waitEvent n ps
  | collect =>
    simp only [Command.run, State.collect]
    split
    · exact .refl s
    · exact .single (.freed _)
    · exact .refl s
    · exact .refl s
  | cancel =>
    simp only [Command.run, State.cancel]
    split
    · exact .refl s
    · exact (State.WaitEvent.single (.freed _)).trans (.of_touches (State.setReexamine_touches _ true) (by decide))
    · exact .refl s
    · exact .refl s
  | _ => exact kept _ (by decide)

theorem State.examine_waitEvent (w : WaitId) : s.WaitEvent (s.examine w) := by
  unfold State.examine
  split
  · split
    · exact .single (.resolved w _)
    · split
      · exact .single (.resolved w _)
      · split
        · split
          next i _ =>
            have allocated : ∀ e, s.WaitEvent (s.setEntry i e) := fun e =>
              .of_touches (s.setEntry_touches i e) (by decide)
            exact (allocated _).trans (.single (.resolved w _))
          next => exact .refl s
        · exact .refl s
  all_goals exact .refl s

theorem State.tickWait_waitEvent (w : WaitId) : s.WaitEvent (s.tickWait w) := by
  unfold State.tickWait
  split
  next body =>
    split
    · exact .single (.resolved w _)
    next more => exact .single (.counted body more)
  all_goals exact .refl s

theorem State.waitTick_waitEvent : s.WaitEvent s.waitTick := by
  unfold State.waitTick
  split
  · exact .refl s
  next k _ =>
    have due : s.WaitEvent { s with waits := { s.waits with ticksDue := k } } := .single (.apart ⟨rfl, rfl⟩)
    exact (due.trans (foldl_waitEvent (fun u w => u.tickWait_waitEvent w) allWaits _)).trans
      (.of_touches (State.endPassIfDone_touches _) (by decide))

theorem State.teardown_waitEvent (n : AgentId) : s.WaitEvent (s.teardown n) := by
  have entry : ∀ (u : State) i, u.WaitEvent (State.teardownEntry n u i) := by
    intro u i
    unfold State.teardownEntry
    split
    · exact .of_touches (u.retire_touches i) (by decide)
    · exact .refl u
  have offer : ∀ (u : State) i, u.WaitEvent (State.teardownOffer n u i) := by
    intro u i
    have withdrawn : ∀ v, u.WaitEvent (u.setActive i v) := fun v => .of_touches (u.setActive_touches i v) (by decide)
    unfold State.teardownOffer
    split
    · split
      · exact (withdrawn _).trans (.of_touches (State.raise_touches _ .offerOut _) (by decide))
      · exact .refl u
    all_goals exact .refl u
  have wait : ∀ (u : State) w, u.WaitEvent (State.teardownWait n u w) := by
    intro u w
    unfold State.teardownWait
    split
    · exact .single (.freed w)
    · exact .refl u
  have closed : ∀ u : State, u.WaitEvent (((u.emptyStatus n).teardownWindow n).setReexamine true) := by
    intro u
    have window : (u.emptyStatus n).Touches [.windows] ((u.emptyStatus n).teardownWindow n) :=
      State.setPort_touches_windows _ rfl
    exact ((State.WaitEvent.of_touches (u.emptyStatus_touches n) (by decide)).trans (.of_touches window (by decide))).trans
      (.of_touches (State.setReexamine_touches _ true) (by decide))
  rw [State.teardown]
  refine .trans ?_ (closed _)
  refine .trans ?_ (foldl_waitEvent wait allWaits _)
  exact (foldl_waitEvent entry allEntries s).trans (foldl_waitEvent offer allEntries _)

end

theorem exec_waitEvent {i : Instr} {s t : State} (h : exec i s = .next t) (claim : commandOf i = none)
    (known : i ≠ .badCmd) (running : i ≠ .resetAssert) : s.WaitEvent t := by
  have kept : .waiting ∉ claimFootprint i → s.WaitEvent t := fun apart =>
    .of_touches (exec_touches h claim known) apart
  cases i with
  | passStep =>
    simp only [exec, execPassStep] at h
    split at h
    · split at h <;> cases h
      · exact .of_touches (s.setJob_touches none) (by decide)
      next w rest _ =>
        exact ((s.examine_waitEvent w).trans (.of_touches (State.setJob_touches _ _) (by decide))).trans
          (.of_touches (State.endPassIfDone_touches _) (by decide))
    all_goals cases h; exact .refl s
  | teardown =>
    simp only [exec, execTeardown] at h
    split at h
    next n _ =>
      rw [← Host.Outcome.next.inj h]
      exact (s.teardown_waitEvent n).trans (.of_touches (State.setJob_touches _ none) (by decide))
    all_goals cases h; exact .refl s
  | tick c =>
    cases c with
    | waitList => cases h; exact s.waitTick_waitEvent
    | _ => exact kept (by decide)
  | waitTimeout =>
    simp only [exec, execWaitTimeout] at h
    split at h <;> cases h
    · exact s.waitTick_waitEvent
    · exact .refl s
  | resetAssert => exact absurd rfl running
  | badCmd => exact absurd rfl known
  | _ => exact kept (by simp only [claimFootprint]; decide)

/-- A change of the Wait List keeps every wait entry as the laws ask. -/
theorem State.WaitMove.fit {s t : State} (h : s.WaitMove t) (fit : ∀ w, (s.wait w).body.Fit) (v : WaitId) :
    (t.wait v).body.Fit := by
  have set : ∀ {w e}, e.body.Fit → ((s.setWait w e).wait v).body.Fit := by
    intro w e new
    rw [State.setWait_wait]
    split
    · exact new
    · exact fit v
  cases h with
  | freed w => exact set (e := { gen := _, body := .free }) trivial
  | resolved w o =>
    unfold State.resolveWait
    split
    next n q d body =>
      have old := fit w
      rw [body] at old
      exact set (e := { gen := _, body := .resolved n q o }) old.1.1
    all_goals exact fit v
  | @counted w n q d body more =>
    have old := fit w
    rw [body] at old
    refine set (e := { gen := _, body := .waiting n q (some (d - 1)) }) ⟨old.1, fun k e => ?_⟩
    obtain ⟨-, below⟩ := old.2 d rfl
    cases e
    omega
  | @queued w n q d free room new deadline =>
    exact set (e := { gen := _, body := .waiting n q d }) ⟨new, deadline⟩
  | apart same =>
    rw [State.wait, same.1]
    exact fit v

theorem State.fit_looksAt : LooksAt State.Fit [.entries, .waiting] := by
  intro s t same fit
  have entries : t.leases.entries = s.leases.entries := same .entries (by decide)
  obtain ⟨waits, -⟩ : t.waits.entries = s.waits.entries ∧ t.waits.order = s.waits.order := same .waiting (by decide)
  simpa only [State.Fit, State.entry, State.wait, entries, waits] using fit

theorem State.Fit.of_events {s t : State} (fit : s.Fit) (entries : s.EntryEvent t) (waits : s.WaitEvent t) : t.Fit :=
  ⟨fit.entryEvent entries, waits.keeps (P := fun u => ∀ w, (u.wait w).body.Fit) (fun _ _ move fit => move.fit fit) fit.2⟩

theorem State.reset_fit : State.reset.Fit := by
  refine ⟨fun i => ?_, fun w => ?_⟩
  · by_cases zero : i = 0
    · subst zero
      exact ⟨⟨⟨by decide, by decide, nofun, fun _ => rfl, nofun⟩, nofun⟩, nofun, fun _ => ⟨rfl, rfl⟩, nofun⟩
    · rw [State.reset_entry_of_ne zero]
      trivial
  · have free : ∀ w, (State.reset.wait w).body = .free := by decide
    rw [free w]
    trivial

theorem State.Fit.step {s t : State} (fit : s.Fit) (h : step s = .next t) : t.Fit := by
  have completion := State.fit_looksAt.completion (by decide)
  refine step_keeps_law State.fit_looksAt (fun s n c r _ => completion s n c r) ?own ?claim
    (fun s fit => fit.of_events s.clock_entryEvent (.of_touches s.clock_touches (by decide))) fit h
  case own =>
    intro c n ps s _ _ _ fit
    exact completion _ n _ _ (fit.of_events (.leasing (c.run_entryStep s n ps)) (c.run_waitEvent s n ps))
  case claim =>
    intro i s t touched h fit
    by_cases running : i = .resetAssert
    · subst running
      cases h
      exact State.fit_looksAt.of_reset (by decide) State.reset_fit _
    · obtain ⟨claim, known⟩ := claim_of_meets touched
      exact fit.of_events (exec_entryEvent h claim known running) (exec_waitEvent h claim known running)

/-- Settles O55: every move of an entry, every grant and every ACCEPT keeps its lease as the laws ask, and a request is
queued only where it passes the same checks. -/
theorem fieldsAndCountdownsAreKept : Obligations.FieldsAndCountdownsAreKept := by
  intro s t fields counts owners h
  exact (t.fit_iff).mp (((s.fit_iff).mpr ⟨fields, counts, owners⟩).step h)

end Sys2Proof.Machine
end

section
/-! SUPPORT. R83, R85: the waiting order; and R45, R50, R51, R172, R178: the job in hand, the job list, the windows and the
AGRSTn lines. -/

namespace Sys2Proof.Machine

theorem nodup_concat {α : Type} {l : List α} {a : α} (nodup : l.Nodup) (fresh : a ∉ l) : (l ++ [a]).Nodup :=
  List.nodup_append.mpr ⟨nodup, List.pairwise_singleton _ a, fun b hb c hc eq =>
    fresh (List.mem_singleton.mp hc ▸ eq ▸ hb)⟩

/-! ## The Wait List (R83, R85) -/

/-- Where one wait entry changes, its requester may hold one more, and nobody else does. -/
theorem State.waitsHeld_setWait_le (s : State) (w : WaitId) (e : WaitEntry) (n : AgentId) {c : Nat}
    (h : e.body.requester? = some n → (s.wait w).body.requester? = some n ∨ 1 ≤ c) :
    (s.setWait w e).waitsHeld n ≤ s.waitsHeld n + c := by
  simp only [State.waitsHeld, countP_eq_sum]
  refine sum_map_le_add allWaits_nodup (i := w) (fun v ne => ?_) ?_
  · exact Nat.le_of_eq (by rw [State.setWait_wait, if_neg ne])
  · rw [State.setWait_wait, if_pos rfl]
    by_cases own : e.body.requester? = some n
    · rcases h own with old | room
      · rw [own, old]
        exact Nat.le_add_right _ _
      · exact Nat.le_trans (Bool.toNat_le _) (Nat.le_trans room (Nat.le_add_left _ _))
    · rw [beq_eq_false_iff_ne.mpr own]
      exact Nat.zero_le _

theorem State.setWaitOrder_waitsHeld (s : State) (l : List WaitId) (n : AgentId) :
    (s.setWaitOrder l).waitsHeld n = s.waitsHeld n := rfl

theorem State.waitLaw_looksAt : LooksAt State.WaitLaw [.waiting] := by
  intro s t same law
  obtain ⟨entries, order⟩ : t.waits.entries = s.waits.entries ∧ t.waits.order = s.waits.order :=
    same .waiting (by decide)
  simpa only [State.WaitLaw, State.waitsHeld, State.wait, entries, order] using law

/-- A wait entry that stops to wait leaves the waiting order, for a requester that held it before or for none. -/
theorem State.WaitLaw.leave {s : State} (law : s.WaitLaw) {w : WaitId} {e : WaitEntry}
    (stops : e.body.isWaiting = false)
    (kept : ∀ n, e.body.requester? = some n → (s.wait w).body.requester? = some n) :
    ((s.setWait w e).setWaitOrder (s.waits.order.filter (· != w))).WaitLaw := by
  obtain ⟨nodup, waiting, held⟩ := law
  refine ⟨nodup.filter _, fun v => ?_, fun n => ?_⟩
  · simp only [State.setWaitOrder_waits, List.mem_filter, bne_iff_ne, State.setWaitOrder_wait, State.setWait_wait]
    by_cases eq : w = v
    · subst eq
      simp [stops]
    · rw [if_neg eq, waiting v]
      exact ⟨fun h => h.1, fun h => ⟨h, Ne.symm eq⟩⟩
  · rw [State.setWaitOrder_waitsHeld]
    exact Nat.le_trans (s.waitsHeld_setWait_le w e n (c := 0) fun own => .inl (kept n own)) (held n)

theorem State.WaitMove.waitLaw {s t : State} (h : s.WaitMove t) (law : s.WaitLaw) : t.WaitLaw := by
  cases h with
  | freed w => exact law.leave rfl nofun
  | resolved w o =>
    unfold State.resolveWait
    split
    next n q d body =>
      have left := law.leave (w := w) (e := { gen := (s.wait w).gen, body := .resolved n q o }) rfl
        (fun m own => by rw [body]; exact own)
      exact State.waitLaw_looksAt.of_touches (State.raise_touches _ .grant n) (by decide) left
    all_goals exact law
  | @counted w n q d body more =>
    obtain ⟨nodup, waiting, held⟩ := law
    refine ⟨nodup, fun v => (waiting v).trans ?_, fun m => ?_⟩
    · rw [State.setWait_wait]
      split
      next eq => rw [← eq, body]; rfl
      next => rfl
    · exact Nat.le_trans (s.waitsHeld_setWait_le w _ m (c := 0) fun own => .inl (by rw [body]; exact own)) (held m)
  | @queued w n q d free room fit deadline =>
    obtain ⟨nodup, waiting, held⟩ := law
    have out : w ∉ s.waits.order := fun mem => by
      have waits := (waiting w).mp mem
      rw [free] at waits
      cases waits
    refine ⟨?_, fun v => ?_, fun m => ?_⟩
    · exact nodup_concat nodup out
    · simp only [State.queueWait, State.setWaitOrder_waits, List.mem_append, List.mem_singleton,
        State.setWaitOrder_wait, State.setWait_wait]
      by_cases eq : w = v
      · subst eq
        simp [WaitBody.isWaiting]
      · rw [if_neg eq, waiting v]
        exact or_iff_left (Ne.symm eq)
    · rw [State.queueWait, State.setWaitOrder_waitsHeld]
      by_cases own : n = m
      · subst own
        exact Nat.le_trans (s.waitsHeld_setWait_le w _ n (c := 1) fun _ => .inr (Nat.le_refl 1)) room
      · refine Nat.le_trans (s.waitsHeld_setWait_le w _ m (c := 0) fun e => ?_) (held m)
        exact absurd (Option.some.inj e) own
  | apart same => exact State.waitLaw_looksAt s t (fun a mem => List.mem_singleton.mp mem ▸ same) law

theorem State.reset_waitLaw : State.reset.WaitLaw := ⟨by decide, by decide, by decide⟩

theorem State.WaitLaw.step {s t : State} (law : s.WaitLaw) (h : step s = .next t) : t.WaitLaw := by
  have completion := State.waitLaw_looksAt.completion (by decide)
  have kept : ∀ {s t : State}, s.WaitEvent t → s.WaitLaw → t.WaitLaw := fun event law =>
    event.keeps (P := State.WaitLaw) (fun _ _ move law => move.waitLaw law) law
  refine step_keeps_law State.waitLaw_looksAt (fun s n c r _ => completion s n c r) ?own ?claim
    (fun s law => State.waitLaw_looksAt.of_touches s.clock_touches (by decide) law) law h
  case own =>
    intro c n ps s _ _ _ law
    exact completion _ n _ _ (kept (c.run_waitEvent s n ps) law)
  case claim =>
    intro i s t touched h law
    by_cases running : i = .resetAssert
    · subst running
      cases h
      exact State.waitLaw_looksAt.of_reset (by decide) State.reset_waitLaw _
    · obtain ⟨claim, known⟩ := claim_of_meets touched
      exact kept (exec_waitEvent h claim known running) law

/-! ## The Lease Manager's desk (R45, R50, R51, R172, R178) -/

/-- The job in hand, the job list, and of each port the window's state and whether AGRSTn is asserted. -/
structure Desk where
  job : Option Job
  list : List AgentId
  window : AgentId → WindowState
  line : AgentId → Bool

def State.desk (s : State) : Desk where
  job := s.manager.job
  list := s.manager.list
  window := fun n => (s.port n).window
  line := fun n => (s.port n).agrst

/-- The job is no agent's: none, or a pass. -/
def Desk.Shared (d : Desk) : Prop := (∀ n c ps, d.job ≠ some (.command n c ps)) ∧ ∀ n, d.job ≠ some (.teardown n)

/-- The Lease Manager and the windows agree. -/
structure Desk.Law (d : Desk) : Prop where
  nodup : d.list.Nodup
  listed : ∀ n ∈ d.list, d.window n = .detaching
  once : ∀ n ∈ d.list, d.job ≠ some (.teardown n)
  tearing : ∀ n, d.job = some (.teardown n) → d.window n = .detaching
  running : ∀ n c ps, d.job = some (.command n c ps) → d.window n = .executing ∨ d.window n = .detaching ∧ n ∈ d.list
  executing : ∀ n, d.window n = .executing → ∃ c ps, d.job = some (.command n c ps)
  detaching : ∀ n, d.window n = .detaching → n ∈ d.list ∨ d.job = some (.teardown n) ∨ d.line n = true

/-- Every asserted AGRSTn has been read. -/
def Desk.LinesRead (d : Desk) : Prop := ∀ n, d.line n = true → d.window n = .detaching

theorem State.managerLaw_iff (s : State) :
    s.ManagerLaw ↔ s.desk.Law ∧ (s.resetAsserted = false → s.desk.LinesRead) := by
  constructor
  · rintro ⟨nodup, listed, tearing, running, executing, detaching, lines⟩
    exact ⟨⟨nodup, fun n h => (listed n h).1, fun n h => (listed n h).2, tearing, running, executing, detaching⟩,
      fun released n asserted => lines n asserted released⟩
  · rintro ⟨⟨nodup, listed, once, tearing, running, executing, detaching⟩, lines⟩
    exact ⟨nodup, fun n h => ⟨listed n h, once n h⟩, tearing, running, executing, detaching,
      fun n asserted released => lines released n asserted⟩

/-- The desk with another state of window n. -/
def Desk.setWindow (d : Desk) (n : AgentId) (x : WindowState) : Desk :=
  { d with window := fun m => if n = m then x else d.window m }

/-- The desk with AGRSTn of port n asserted, or released. -/
def Desk.setLine (d : Desk) (n : AgentId) (b : Bool) : Desk :=
  { d with line := fun m => if n = m then b else d.line m }

/-- The desk with another job in hand. -/
def Desk.setJob (d : Desk) (j : Option Job) : Desk := { d with job := j }

/-- The desk with another job list. -/
def Desk.setList (d : Desk) (l : List AgentId) : Desk := { d with list := l }

section
variable (d : Desk) (n m : AgentId) (x : WindowState) (b : Bool) (j : Option Job) (l : List AgentId)

@[simp] theorem Desk.setWindow_window : (d.setWindow n x).window m = if n = m then x else d.window m := rfl
@[simp] theorem Desk.setWindow_line : (d.setWindow n x).line = d.line := rfl
@[simp] theorem Desk.setWindow_job : (d.setWindow n x).job = d.job := rfl
@[simp] theorem Desk.setWindow_list : (d.setWindow n x).list = d.list := rfl
@[simp] theorem Desk.setLine_window : (d.setLine n b).window = d.window := rfl
@[simp] theorem Desk.setLine_line : (d.setLine n b).line m = if n = m then b else d.line m := rfl
@[simp] theorem Desk.setLine_job : (d.setLine n b).job = d.job := rfl
@[simp] theorem Desk.setLine_list : (d.setLine n b).list = d.list := rfl
@[simp] theorem Desk.setJob_window : (d.setJob j).window = d.window := rfl
@[simp] theorem Desk.setJob_line : (d.setJob j).line = d.line := rfl
@[simp] theorem Desk.setJob_job : (d.setJob j).job = j := rfl
@[simp] theorem Desk.setJob_list : (d.setJob j).list = d.list := rfl
@[simp] theorem Desk.setList_window : (d.setList l).window = d.window := rfl
@[simp] theorem Desk.setList_line : (d.setList l).line = d.line := rfl
@[simp] theorem Desk.setList_job : (d.setList l).job = d.job := rfl
@[simp] theorem Desk.setList_list : (d.setList l).list = l := rfl

end

section
variable {d : Desk} (law : d.Law)
include law

/-- A window neither EXECUTING nor DETACHING takes another such state. -/
theorem Desk.Law.setIdle {n : AgentId} {x : WindowState} (old : d.window n ≠ .executing ∧ d.window n ≠ .detaching)
    (new : x ≠ .executing ∧ x ≠ .detaching) : (d.setWindow n x).Law := by
  obtain ⟨nodup, listed, once, tearing, running, executing, detaching⟩ := law
  constructor <;> simp <;> grind

/-- A shared job ends, or one is taken. -/
theorem Desk.Law.setShared {j : Option Job} (old : d.Shared) (new : (d.setJob j).Shared) :
    (d.setJob j).Law := by
  obtain ⟨noCommand, noTeardown⟩ := old
  obtain ⟨noCommand', noTeardown'⟩ := new
  exact
    { nodup := law.nodup
      listed := law.listed
      once := fun n _ => noTeardown' n
      tearing := fun n e => absurd e (noTeardown' n)
      running := fun n c ps e => absurd e (noCommand' n c ps)
      executing := fun n e => by
        obtain ⟨c, ps, job⟩ := law.executing n e
        exact absurd job (noCommand n c ps)
      detaching := fun n e => (law.detaching n e).imp_right fun h => .inr (h.resolve_left (noTeardown n)) }

/-- The command in hand completes: its window, if EXECUTING, becomes DONE (R52). -/
theorem Desk.Law.complete {n : AgentId} {c : BitVec 8} {ps : Vector Word 8} (job : d.job = some (.command n c ps)) :
    ((d.setJob none).setWindow n (if d.window n = .executing then .done else d.window n)).Law := by
  obtain ⟨nodup, listed, once, tearing, running, executing, detaching⟩ := law
  constructor <;> simp <;> grind

/-- A detach event of a window that is not DETACHING (R174). -/
theorem Desk.Law.detach {n : AgentId} (attached : d.window n ≠ .detaching) :
    ((d.setWindow n .detaching).setList (d.list ++ [n])).Law := by
  obtain ⟨nodup, listed, once, tearing, running, executing, detaching⟩ := law
  constructor <;> simp <;> grind

/-- AGRSTn is asserted. -/
theorem Desk.Law.assertLine (n : AgentId) : (d.setLine n true).Law := by
  obtain ⟨nodup, listed, once, tearing, running, executing, detaching⟩ := law
  constructor <;> simp <;> grind

/-- The take of a teardown (R50). -/
theorem Desk.Law.takeTeardown {n : AgentId} {rest : List AgentId} (free : d.job = none) (list : d.list = n :: rest) :
    ((d.setList rest).setJob (some (.teardown n))).Law := by
  obtain ⟨nodup, listed, once, tearing, running, executing, detaching⟩ := law
  constructor <;> simp <;> grind

/-- The take of a window's command (R50). -/
theorem Desk.Law.takeWindow {n : AgentId} {c : BitVec 8} {ps : Vector Word 8} (free : d.job = none)
    (pending : d.window n = .pending) :
    ((d.setWindow n .executing).setJob (some (.command n c ps))).Law := by
  obtain ⟨nodup, listed, once, tearing, running, executing, detaching⟩ := law
  constructor <;> simp <;> grind

/-- The completion of a teardown: the window becomes IDLE if AGRSTn is released (R176). -/
theorem Desk.Law.endTeardown {n : AgentId} (job : d.job = some (.teardown n)) :
    ((d.setWindow n (if d.line n then d.window n else .idle)).setJob none).Law := by
  obtain ⟨nodup, listed, once, tearing, running, executing, detaching⟩ := law
  constructor <;> simp <;> grind

/-- AGRSTn is released: a DETACHING window with no teardown to come becomes IDLE (R178). -/
theorem Desk.Law.releaseLine (n : AgentId) {x : WindowState}
    (h : x = d.window n ∧ ¬(d.window n = .detaching ∧ n ∉ d.list ∧ d.job ≠ some (.teardown n)) ∨
      x = .idle ∧ d.window n = .detaching ∧ n ∉ d.list ∧ d.job ≠ some (.teardown n)) :
    ((d.setLine n false).setWindow n x).Law := by
  obtain ⟨nodup, listed, once, tearing, running, executing, detaching⟩ := law
  constructor <;> simp <;> grind

end

/-- A window that changes was not DETACHING, or its AGRSTn is released: every asserted line stays read. -/
theorem Desk.LinesRead.setWindow {d : Desk} (read : d.LinesRead) {n : AgentId} {x : WindowState}
    (h : d.window n ≠ .detaching ∨ d.line n = false ∨ x = .detaching) : (d.setWindow n x).LinesRead := by
  intro m asserted
  rw [Desk.setWindow_line] at asserted
  rw [Desk.setWindow_window]
  split
  next eq =>
    subst eq
    rcases h with attached | released | detaching
    · exact absurd (read n asserted) attached
    · rw [released] at asserted; cases asserted
    · exact detaching
  next => exact read m asserted

/-! ### What the claims do to the desk -/

theorem State.desk_of_touches {s t : State} {L : List Aspect} (h : s.Touches L t) (jobs : .jobs ∉ L)
    (windows : .windows ∉ L) : t.desk = s.desk := by
  obtain ⟨job, list⟩ : t.manager.job = s.manager.job ∧ t.manager.list = s.manager.list := h .jobs jobs
  have ports : ∀ n, (t.port n).window = (s.port n).window ∧ (t.port n).agrst = (s.port n).agrst := h .windows windows
  simp only [State.desk, job, list, ports]

section
variable (s : State) (n : AgentId)

theorem State.setPort_desk {p : Port} (line : p.agrst = (s.port n).agrst) :
    (s.setPort n p).desk = s.desk.setWindow n p.window := by
  have lines : ∀ m, ((s.setPort n p).port m).agrst = (s.port m).agrst := fun m => by
    rw [State.setPort_port]
    split
    next eq => rw [line, eq]
    next => rfl
  have windows : ∀ m, ((s.setPort n p).port m).window = if n = m then p.window else (s.port m).window := fun m => by
    rw [State.setPort_port]
    split <;> rfl
  simp only [State.desk, Desk.setWindow, lines, windows]
  rfl

theorem State.setLine_desk (b : Bool) : (s.setLine n b).desk = s.desk.setLine n b := by
  have lines : ∀ m, ((s.setLine n b).port m).agrst = if n = m then b else (s.port m).agrst := fun m => by
    rw [State.setLine, State.setPort_port]
    split <;> rfl
  have windows : ∀ m, ((s.setLine n b).port m).window = (s.port m).window := fun m => by
    rw [State.setLine, State.setPort_port]
    split
    next eq => rw [eq]
    next => rfl
  simp only [State.desk, Desk.setLine, lines, windows]
  rfl

theorem State.setJob_desk (j : Option Job) : (s.setJob j).desk = s.desk.setJob j := rfl

theorem State.setJobList_desk (l : List AgentId) : (s.setJobList l).desk = s.desk.setList l := rfl

theorem Desk.setWindow_self (d : Desk) {x : WindowState} (h : d.window n = x) : d.setWindow n x = d := by
  subst h
  have same : ∀ m, (if n = m then d.window n else d.window m) = d.window m := fun m => by
    split
    next eq => rw [eq]
    next => rfl
  simp only [Desk.setWindow, same]

theorem State.respond_desk (code : BitVec 8) (r : Reply) :
    (s.respond n code r).desk =
      s.desk.setWindow n (if s.desk.window n = .executing then .done else s.desk.window n) := by
  by_cases h : (s.port n).window = .executing
  · have raised : ∀ u : State, (u.raise .done n).desk = u.desk := fun u =>
      State.desk_of_touches (u.raise_touches .done n) (by decide) (by decide)
    have executing : s.desk.window n = .executing := h
    rw [s.respond_executing code r h, if_pos executing, raised, State.setPort_desk]
    rfl
  · have other : ¬s.desk.window n = .executing := h
    rw [s.respond_discarded code r h, if_neg other, Desk.setWindow_self n s.desk rfl]

theorem State.detachEvent_desk (h : (s.port n).window ≠ .detaching) :
    (s.detachEvent n).desk = (s.desk.setWindow n .detaching).setList (s.desk.list ++ [n]) := by
  rw [s.detachEvent_of_attached h, State.setJobList_desk, State.setPort_desk]
  all_goals rfl

/-- The detach event keeps the desk in agreement, and reads the line of its port. -/
theorem State.detachEvent_law (law : s.desk.Law) : (s.detachEvent n).desk.Law := by
  by_cases h : (s.port n).window = .detaching
  · rwa [s.detachEvent_of_detaching h]
  · rw [s.detachEvent_desk n h]
    exact law.detach h

theorem State.detachEvent_line (m : AgentId) : (s.detachEvent n).desk.line m = s.desk.line m := by
  by_cases h : (s.port n).window = .detaching
  · rw [s.detachEvent_of_detaching h]
  · rw [s.detachEvent_desk n h]
    rfl

theorem State.detachEvent_window (m : AgentId) :
    (s.detachEvent n).desk.window m = if n = m then .detaching else s.desk.window m := by
  by_cases h : (s.port n).window = .detaching
  · rw [s.detachEvent_of_detaching h]
    split
    next eq => exact eq ▸ h
    next => rfl
  · rw [s.detachEvent_desk n h]
    rfl

/-- The teardown's completion, at the desk. -/
theorem State.teardown_desk :
    (s.teardown n).desk = s.desk.setWindow n (if s.desk.line n then s.desk.window n else .idle) := by
  have entry : ∀ (u : State) i, (State.teardownEntry n u i).desk = u.desk := by
    intro u i
    unfold State.teardownEntry
    split
    · exact State.desk_of_touches (u.retire_touches i) (by decide) (by decide)
    · rfl
  have offer : ∀ (u : State) i, (State.teardownOffer n u i).desk = u.desk := by
    intro u i
    have raised : ∀ (v : State) m, (v.raise .offerOut m).desk = v.desk := fun v m =>
      State.desk_of_touches (v.raise_touches .offerOut m) (by decide) (by decide)
    unfold State.teardownOffer
    split
    · split
      · exact (raised _ _).trans (State.desk_of_touches (u.setActive_touches i _) (by decide) (by decide))
      · rfl
    all_goals rfl
  have wait : ∀ (u : State) w, (State.teardownWait n u w).desk = u.desk := by
    intro u w
    unfold State.teardownWait
    split
    · exact State.desk_of_touches (u.freeWait_touches w) (by decide) (by decide)
    · rfl
  have window : ∀ u : State, (u.teardownWindow n).desk =
      u.desk.setWindow n (if u.desk.line n then u.desk.window n else .idle) := fun u => u.setPort_desk n rfl
  have emptied : ∀ u : State, (u.emptyStatus n).desk = u.desk := fun u =>
    State.desk_of_touches (u.emptyStatus_touches n) (by decide) (by decide)
  have before : (((allWaits.foldl (State.teardownWait n)
      ((s.forEntries (State.teardownEntry n)).forEntries (State.teardownOffer n))).emptyStatus n)).desk = s.desk := by
    rw [emptied, foldl_keeps State.desk wait, State.forEntries_keeps State.desk offer,
      State.forEntries_keeps State.desk entry]
  rw [State.teardown, State.desk_of_touches (State.setReexamine_touches _ true) (by decide) (by decide), window, before]

end

/-! ### The law -/

theorem State.managerLaw_looksAt : LooksAt State.ManagerLaw [.jobs, .windows, .reset] := by
  intro s t same law
  obtain ⟨job, list⟩ : t.manager.job = s.manager.job ∧ t.manager.list = s.manager.list := same .jobs (by decide)
  have ports : ∀ n, (t.port n).window = (s.port n).window ∧ (t.port n).agrst = (s.port n).agrst :=
    same .windows (by decide)
  have reset : t.resetAsserted = s.resetAsserted := same .reset (by decide)
  simpa only [State.ManagerLaw, job, list, ports, reset] using law

/-- A claim keeps the law that keeps the desk in agreement and the lines read. -/
theorem State.ManagerLaw.of_desk {s t : State} (law : s.ManagerLaw) (reset : t.resetAsserted = s.resetAsserted)
    (move : s.desk.Law → t.desk.Law) (lines : s.desk.Law → s.desk.LinesRead → t.desk.LinesRead) : t.ManagerLaw := by
  obtain ⟨agree, read⟩ := (s.managerLaw_iff).mp law
  exact (t.managerLaw_iff).mpr ⟨move agree, fun released => lines agree (read (reset ▸ released))⟩

/-- A port whose window and line do not change, or change between states that are neither EXECUTING nor DETACHING. -/
theorem State.ManagerLaw.setPort {s : State} (law : s.ManagerLaw) {n : AgentId} {p : Port}
    (line : p.agrst = (s.port n).agrst)
    (window : p.window = (s.port n).window ∨ ((s.port n).window ≠ .executing ∧ (s.port n).window ≠ .detaching) ∧
      p.window ≠ .executing ∧ p.window ≠ .detaching) : (s.setPort n p).ManagerLaw := by
  refine law.of_desk rfl (fun agree => ?_) fun _ read => ?_
  · rw [s.setPort_desk n line]
    rcases window with same | ⟨old, new⟩
    · rwa [Desk.setWindow_self n s.desk same.symm]
    · exact agree.setIdle old new
  · rw [s.setPort_desk n line]
    rcases window with same | ⟨⟨-, attached⟩, -⟩
    · rwa [Desk.setWindow_self n s.desk same.symm]
    · exact read.setWindow (.inl attached)

theorem Port.writeCommand_window (p : Port) (v : Word) :
    (p.writeCommand v).agrst = p.agrst ∧ ((p.writeCommand v).window = p.window ∨
      (p.window ≠ .executing ∧ p.window ≠ .detaching) ∧ (p.writeCommand v).window ≠ .executing ∧
        (p.writeCommand v).window ≠ .detaching) := by
  unfold Port.writeCommand
  cases h : p.window <;> simp [h]

theorem State.ManagerLaw.setShared {s : State} (law : s.ManagerLaw) {j : Option Job} (old : s.desk.Shared)
    (new : (s.desk.setJob j).Shared) : (s.setJob j).ManagerLaw :=
  law.of_desk rfl (fun agree => agree.setShared old new) fun _ read => read

theorem Desk.shared_pass (d : Desk) (todo : List WaitId) : (d.setJob (some (.pass todo))).Shared := ⟨nofun, nofun⟩

theorem Desk.shared_none (d : Desk) : (d.setJob none).Shared := ⟨nofun, nofun⟩

theorem Desk.shared_of_pass {d : Desk} {todo : List WaitId} (h : d.job = some (.pass todo)) : d.Shared := by
  constructor
  · intro n c ps e
    rw [h] at e
    cases e
  · intro n e
    rw [h] at e
    cases e

theorem Desk.shared_of_none {d : Desk} (h : d.job = none) : d.Shared := by
  constructor
  · intro n c ps e
    rw [h] at e
    cases e
  · intro n e
    rw [h] at e
    cases e

theorem State.ManagerLaw.endPassIfDone {s : State} (law : s.ManagerLaw) : s.endPassIfDone.ManagerLaw := by
  unfold State.endPassIfDone
  split
  next todo job =>
    split
    · exact law
    · exact law.setShared (Desk.shared_of_pass (d := s.desk) job) s.desk.shared_none
  all_goals exact law

theorem State.ManagerLaw.complete {s : State} (law : s.ManagerLaw) {n : AgentId} {c : BitVec 8} {ps : Vector Word 8}
    (job : s.manager.job = some (.command n c ps)) (r : Reply) : ((s.setJob none).respond n c r).ManagerLaw := by
  refine law.of_desk (State.respond_resetAsserted _ _ _ _) (fun agree => ?_) fun _ read => ?_
  · rw [State.respond_desk, State.setJob_desk]
    exact agree.complete job
  · rw [State.respond_desk, State.setJob_desk]
    refine Desk.LinesRead.setWindow (d := s.desk.setJob none) read ?_
    rw [Desk.setJob_window]
    split
    next executing => exact .inl (by rw [executing]; decide)
    next => exact (Decidable.em (s.desk.window n = .detaching)).elim (fun h => .inr (.inr h)) .inl

theorem State.ManagerLaw.detachEvent {s : State} (law : s.ManagerLaw) (n : AgentId) :
    (s.detachEvent n).ManagerLaw := by
  refine law.of_desk (s.detachEvent_resetAsserted n) (s.detachEvent_law n) fun _ read m asserted => ?_
  rw [s.detachEvent_line] at asserted
  rw [s.detachEvent_window]
  split
  · rfl
  · exact read m asserted

theorem execLmTake_managerLaw {s t : State} (h : execLmTake s = .next t) (law : s.ManagerLaw) : t.ManagerLaw := by
  unfold execLmTake at h
  split at h
  · cases h; exact law
  next free =>
    split at h
    next n rest list =>
      cases h
      exact law.of_desk rfl (fun agree => agree.takeTeardown free list) fun _ read => read
    next =>
      split at h
      · cases h
        have none_ : s.desk.Shared := Desk.shared_of_none free
        have cleared : (s.setReexamine false).ManagerLaw :=
          State.managerLaw_looksAt.of_touches (s.setReexamine_touches false) (by decide) law
        exact (cleared.setShared none_ (Desk.shared_pass _ _)).endPassIfDone
      · split at h <;> cases h
        next n found =>
          have pending : (s.port n).window = .pending := by simpa using List.find?_some found
          have desk : (s.takeWindow n).desk = (s.desk.setWindow n .executing).setJob
              (some (.command n (s.port n).code (s.port n).params)) := by
            have opened := s.setPort_desk n (p := { s.port n with window := .executing }) rfl
            exact congrArg (fun d => d.setJob (some (.command n (s.port n).code (s.port n).params))) opened
          have attached : s.desk.window n ≠ .detaching := fun detaching => by
            cases pending.symm.trans detaching
          refine law.of_desk rfl (fun agree => ?_) fun _ read => ?_
          · rw [desk]
            exact agree.takeWindow free pending
          · rw [desk]
            exact Desk.LinesRead.setWindow (d := s.desk) read (.inl attached)
        next => exact law

theorem execAgrstAssert_managerLaw {n : AgentId} {s t : State} (h : execAgrstAssert n s = .next t)
    (law : s.ManagerLaw) : t.ManagerLaw := by
  obtain ⟨agree, read⟩ := (s.managerLaw_iff).mp law
  have line : (s.setLine n true).desk.Law := s.setLine_desk n true ▸ agree.assertLine n
  unfold execAgrstAssert at h
  split at h
  · cases h; exact law
  · split at h
    next reset =>
      cases h
      refine (State.managerLaw_iff _).mpr ⟨line, fun released => ?_⟩
      exact absurd (reset.symm.trans released) (by decide)
    next running =>
      cases h
      refine (State.managerLaw_iff _).mpr ⟨State.detachEvent_law _ n line, fun _ m asserted => ?_⟩
      rw [State.detachEvent_line, State.setLine_desk, Desk.setLine_line] at asserted
      rw [State.detachEvent_window, State.setLine_desk, Desk.setLine_window]
      split
      next => rfl
      next other =>
        rw [if_neg other] at asserted
        exact read (Bool.eq_false_iff.mpr running) m asserted

theorem State.noTeardown_iff (s : State) (n : AgentId) :
    s.noTeardown n = true ↔ n ∉ s.desk.list ∧ s.desk.job ≠ some (.teardown n) := by
  simp only [State.noTeardown, State.desk, Bool.and_eq_true, Bool.not_eq_true', bne_iff_ne, List.contains_eq_mem,
    decide_eq_false_iff_not]

theorem execAgrstRelease_managerLaw {n : AgentId} {s t : State} (h : execAgrstRelease n s = .next t)
    (law : s.ManagerLaw) : t.ManagerLaw := by
  have desk : (s.setLine n false).desk = s.desk.setLine n false := s.setLine_desk n false
  have window : ((s.setLine n false).port n).window = s.desk.window n := congrFun (congrArg Desk.window desk) n
  have noTeardown := (s.setLine n false).noTeardown_iff n
  rw [desk] at noTeardown
  have released : ∀ {x}, s.desk.LinesRead → ((s.desk.setLine n false).setWindow n x).LinesRead := by
    intro x read
    refine Desk.LinesRead.setWindow (fun m asserted => ?_) (.inr (.inl (if_pos rfl)))
    rw [Desk.setLine_line] at asserted
    split at asserted
    · cases asserted
    · exact read m asserted
  simp only [execAgrstRelease] at h
  split at h
  · split at h
    next idle =>
      cases h
      obtain ⟨detaching, ended⟩ := idle
      have ended_desk : ((s.setLine n false).setPort n { (s.setLine n false).port n with window := .idle }).desk =
          (s.desk.setLine n false).setWindow n .idle := desk ▸ State.setPort_desk _ n rfl
      refine law.of_desk rfl (fun agree => ?_) fun _ read => ?_
      · rw [ended_desk]
        obtain ⟨unlisted, notInHand⟩ := noTeardown.mp ended
        exact agree.releaseLine n (.inr ⟨rfl, window ▸ detaching, unlisted, notInHand⟩)
      · rw [ended_desk]
        exact released read
    next stays =>
      cases h
      rw [window, noTeardown] at stays
      have same := Desk.setWindow_self n (s.desk.setLine n false) (x := s.desk.window n) rfl
      refine law.of_desk rfl (fun agree => ?_) fun _ read => ?_
      · rw [desk, ← same]
        exact agree.releaseLine n (.inl ⟨rfl, stays⟩)
      · rw [desk, ← same]
        exact released read
  · cases h; exact law

/-- Every line in the order is read (R172). -/
theorem foldl_readLine_law (l : List AgentId) (s : State) (agree : s.desk.Law) :
    (l.foldl State.readLine s).desk.Law ∧
      ∀ m, (l.foldl State.readLine s).desk.line m = s.desk.line m ∧
        (s.desk.line m = true → (m ∈ l ∨ s.desk.window m = .detaching) →
          (l.foldl State.readLine s).desk.window m = .detaching) := by
  induction l generalizing s with
  | nil => exact ⟨agree, fun m => ⟨rfl, fun _ h => h.resolve_left nofun⟩⟩
  | cons n l ih =>
    have here : (s.readLine n).desk.Law ∧ ∀ m, (s.readLine n).desk.line m = s.desk.line m ∧
        (s.desk.line m = true → (n = m ∨ s.desk.window m = .detaching) →
          (s.readLine n).desk.window m = .detaching) := by
      unfold State.readLine
      split
      next =>
        refine ⟨s.detachEvent_law n agree, fun m => ⟨s.detachEvent_line n m, fun _ h => ?_⟩⟩
        rw [s.detachEvent_window]
        split
        · rfl
        next ne => exact h.resolve_left ne
      next released =>
        exact ⟨agree, fun m => ⟨rfl, fun asserted h => h.resolve_left fun eq => released (eq ▸ asserted)⟩⟩
    obtain ⟨agree, reads⟩ := here
    obtain ⟨agree, rest⟩ := ih _ agree
    refine ⟨agree, fun m => ?_⟩
    obtain ⟨line, window⟩ := reads m
    obtain ⟨line', window'⟩ := rest m
    refine ⟨line'.trans line, fun asserted h => window' (line.trans asserted) ?_⟩
    rcases h with mem | detaching
    · rcases List.mem_cons.mp mem with eq | mem
      · exact .inr (window asserted (.inl eq.symm))
      · exact .inl mem
    · exact .inr (window asserted (.inr detaching))

theorem execResetRelease_managerLaw {order : List AgentId} {s t : State} (h : execResetRelease order s = .next t)
    (law : s.ManagerLaw) : t.ManagerLaw := by
  obtain ⟨agree, -⟩ := (s.managerLaw_iff).mp law
  unfold execResetRelease at h
  split at h <;> cases h
  · obtain ⟨agree, reads⟩ := foldl_readLine_law (order ++ allAgents) { s with resetAsserted := false } agree
    refine (State.managerLaw_iff _).mpr ⟨agree, fun _ m asserted => ?_⟩
    obtain ⟨line, window⟩ := reads m
    exact window (line ▸ asserted) (.inl (List.mem_append_right _ (List.mem_finRange m)))
  · exact law

theorem State.resetBlocks_managerLaw (s : State) : s.resetBlocks.ManagerLaw := by
  have idle : ∀ n, (s.resetBlocks.port n).window = .idle := fun n => by
    simp only [State.port, State.resetBlocks, Fin.getElem_fin, Vector.getElem_ofFn]
    rfl
  refine (State.managerLaw_iff _).mpr ⟨⟨List.nodup_nil, nofun, nofun, nofun, nofun, fun n e => ?_, fun n e => ?_⟩, nofun⟩
  · exact nomatch (idle n).symm.trans e
  · exact nomatch (idle n).symm.trans e

theorem State.ManagerLaw.presentWindow {s : State} (law : s.ManagerLaw) (n : AgentId) (c : WindowCycle)
    {take : State → State} (h : ∀ t : State, t.ManagerLaw → (take t).ManagerLaw) :
    (s.presentWindow n c take).ManagerLaw := by
  have held : ∀ x, (s.setHeldWindow n x).ManagerLaw := fun x => law.setPort rfl (.inl rfl)
  unfold State.presentWindow
  split
  · exact held _
  · exact h _ (held none)

theorem State.ManagerLaw.windowCycle {s : State} (law : s.ManagerLaw) (n : AgentId) (c : WindowCycle) :
    (s.windowCycle n c).ManagerLaw := by
  have answered : ∀ (u : State) b, u.ManagerLaw → (u.answerWindow n b).ManagerLaw := fun u b law =>
    law.setPort rfl (.inl rfl)
  have stored : (s.windowStore n c.word c.data).ManagerLaw := by
    unfold State.windowStore
    split
    next k =>
      obtain ⟨window, line, -⟩ := (s.port n).writeParam_frame ⟨_, k⟩ c.data
      exact law.setPort line (.inl window)
    next =>
      split
      · obtain ⟨line, window⟩ := (s.port n).writeCommand_window c.data
        exact law.setPort line window
      · split
        · exact State.managerLaw_looksAt.of_touches (s.clearCauses_touches n c.data) (by decide) law
        · split
          · exact State.managerLaw_looksAt.of_touches (s.writeEnable_touches n c.data) (by decide) law
          · exact law
  unfold State.windowCycle
  split
  · exact answered _ _ law
  · split
    · exact answered _ _ stored
    · exact answered _ _ law

theorem State.ManagerLaw.waitTick {s : State} (law : s.ManagerLaw) : s.waitTick.ManagerLaw := by
  unfold State.waitTick
  split
  · exact law
  next k _ =>
    have due : State.ManagerLaw { s with waits := { s.waits with ticksDue := k } } := law
    have ticked := foldl_touches (fun (u : State) w => u.tickWait_touches w) allWaits
      { s with waits := { s.waits with ticksDue := k } }
    exact (State.managerLaw_looksAt.of_touches ticked (by decide) due).endPassIfDone

theorem State.ManagerLaw.step {s t : State} (law : s.ManagerLaw) (h : step s = .next t) : t.ManagerLaw := by
  refine step_keeps_law State.managerLaw_looksAt (fun s n c r ⟨_, job⟩ law => law.complete job r) ?own ?claim
    (fun s law => State.managerLaw_looksAt.of_touches s.clock_touches (by decide) law) law h
  case own =>
    intro c n ps s touched job _ law
    cases c with
    | detach =>
      refine State.ManagerLaw.complete ?_ ((Command.detach.run_job n ps s).trans job) _
      simp only [Command.run, State.detach]
      split
      · exact law
      next m _ => exact State.check_of law fun _ => law.detachEvent m
    | _ => exact (Bool.false_ne_true touched).elim
  case claim =>
    intro i s t touched h law
    cases i with
    | lmTake => exact execLmTake_managerLaw h law
    | passStep =>
      simp only [exec, execPassStep] at h
      split at h
      next todo job =>
        have pass : s.desk.Shared := Desk.shared_of_pass job
        split at h <;> cases h
        · exact law.setShared pass s.desk.shared_none
        next w rest _ =>
          have examined : (s.examine w).ManagerLaw :=
            State.managerLaw_looksAt.of_touches (s.examine_touches w) (by decide) law
          have same : (s.examine w).desk = s.desk :=
            State.desk_of_touches (s.examine_touches w) (by decide) (by decide)
          exact (examined.setShared (same ▸ pass) (Desk.shared_pass _ _)).endPassIfDone
      all_goals cases h; exact law
    | teardown =>
      simp only [exec, execTeardown] at h
      split at h
      next n job =>
        rw [← Host.Outcome.next.inj h]
        have desk : ((s.teardown n).setJob none).desk =
            (s.desk.setWindow n (if s.desk.line n then s.desk.window n else .idle)).setJob none := by
          rw [State.setJob_desk, State.teardown_desk]
        have reset : ((s.teardown n).setJob none).resetAsserted = s.resetAsserted := by
          rw [State.setJob_resetAsserted]
          exact s.teardown_touches n .reset (by decide)
        refine law.of_desk reset (fun agree => ?_) fun _ read => ?_
        · rw [desk]
          exact agree.endTeardown job
        · rw [desk]
          refine Desk.LinesRead.setWindow (d := s.desk) read ?_
          cases line : s.desk.line n with
          | false => exact .inr (.inl rfl)
          | true => exact .inr (.inr (read n line))
      all_goals cases h; exact law
    | commandWrite n v =>
      cases h
      refine law.presentWindow n _ fun u law => ?_
      obtain ⟨line, window⟩ := (u.port n).writeCommand_window v
      exact State.ManagerLaw.setPort (law.setPort line window) rfl (.inl rfl)
    | windowWrite n c =>
      simp only [exec, execWindowWrite] at h
      split at h <;> cases h
      · exact law.presentWindow n _ fun u law => law.windowCycle n _
      · exact law.presentWindow n _ fun u law => law.windowCycle n _
      · exact law
    | tick c =>
      cases c with
      | waitList => cases h; exact law.waitTick
      | _ => exact (Bool.false_ne_true touched).elim
    | waitTimeout =>
      simp only [exec, execWaitTimeout] at h
      split at h <;> cases h
      · exact law.waitTick
      · exact law
    | agrstAssert n => exact execAgrstAssert_managerLaw h law
    | agrstRelease n => exact execAgrstRelease_managerLaw h law
    | resetAssert => cases h; exact State.resetBlocks_managerLaw _
    | resetRelease order => exact execResetRelease_managerLaw h law
    | _ => exact (Bool.false_ne_true touched).elim

/-- Settles O57: each move of the Wait List keeps the waiting order exact, and each claim that changes the job, the job
list, a window or a line keeps the desk in agreement. -/
theorem waitListAndManagerAreKept : Obligations.WaitListAndManagerAreKept :=
  fun _ _ h => ⟨fun law => law.step h, fun law => law.step h⟩

end Sys2Proof.Machine
end

section
/-! SUPPORT. R32, R180 to R184: the Memory Port's limits, and the one access of each port that its marker records. -/

namespace Sys2Proof.Machine

/-! ## What can befall the Memory Port -/

/-- The limits of R180 to R184 (`State.MemoryPortLaw`). -/
structure MemoryPort.Law (m : MemoryPort) : Prop where
  credit : m.credit ≤ 16
  noChunk : m.chunk = none → m.credit = 0
  word : ∀ c k, m.grant = some (.chunk c k) → k ≤ 63
  clocks : ∀ k, m.strobe = some k → k < 256
  idle : m.grant = none → m.strobe = none
  strobed : ∀ n a, m.grant = some (.agent n a) → m.strobe ≠ none
  decision : m.grant = none → (m.agentWaiting = true ∨ m.chunk ≠ none) → m.due ≠ .none

theorem State.memoryPortLaw_iff (s : State) : s.MemoryPortLaw ↔ s.memPort.Law := by
  constructor
  · rintro ⟨credit, noChunk, word, clocks, idle, strobed, decision⟩
    exact ⟨credit, noChunk, fun c k e => by rw [e] at word; exact word, clocks, idle, strobed, decision⟩
  · rintro ⟨credit, noChunk, word, clocks, idle, strobed, decision⟩
    refine ⟨credit, noChunk, ?_, clocks, idle, strobed, decision⟩
    split
    next c k e => exact word c k e
    next => trivial

/-- One operation on the Memory Port, but for the forwarding of an access and the end of a grant. -/
inductive MemoryPort.Move : MemoryPort → MemoryPort → Prop where
  /-- A chunk request arrives (R181). -/
  | chunk {m : MemoryPort} {c : Chunk} : Move m (m.requestChunk c)
  /-- A grant decision is taken (R181). -/
  | decided {m : MemoryPort} : Move m m.decide
  /-- A word of a chunk ends, and not the last (R184). -/
  | next {m : MemoryPort} {c : Chunk} {k : Nat} (grant : m.grant = some (.chunk c k)) (more : k < 63) :
      Move m (m.nextWord c k)
  /-- A clock of a word, or the begin of a chunk's next word (R182). -/
  | clocked {m : MemoryPort} {g : Grant} {k : Nat} (grant : m.grant = some g) (below : k < 256) :
      Move m { m with strobe := some k }

/-- A port with nothing waiting, no grant and no decision to be taken is quiet. -/
theorem MemoryPort.due_of_not_quiet {m : MemoryPort} (law : m.Law) (grant : m.grant = none) (h : ¬m.quiet = true) :
    m.due ≠ .none := by
  intro due
  by_cases waits : m.agentWaiting = true ∨ m.chunk ≠ none
  · exact law.decision grant waits due
  · obtain ⟨noAgent, noChunk⟩ := not_or.mp waits
    refine h ?_
    simp only [MemoryPort.quiet, grant, due, Bool.eq_false_iff.mpr noAgent, Classical.not_not.mp noChunk]
    rfl

theorem MemoryPort.Law.requestChunk {m : MemoryPort} (law : m.Law) (c : Chunk) : (m.requestChunk c).Law where
  credit := law.credit
  noChunk := nofun
  word := law.word
  clocks := law.clocks
  idle := law.idle
  strobed := law.strobed
  decision := by
    intro grant _
    simp only [MemoryPort.requestChunk]
    split
    · exact nofun
    next busy => exact MemoryPort.due_of_not_quiet law grant busy

theorem MemoryPort.Law.requestAgent {m : MemoryPort} (law : m.Law) (n : AgentId) (a : Access) :
    (m.requestAgent n a).Law where
  credit := law.credit
  noChunk := law.noChunk
  word := law.word
  clocks := law.clocks
  idle := law.idle
  strobed := law.strobed
  decision := by
    intro grant _
    simp only [MemoryPort.requestAgent]
    split
    · exact nofun
    next busy => exact MemoryPort.due_of_not_quiet law grant busy

theorem MemoryPort.Law.endGrant {m : MemoryPort} (law : m.Law) : m.endGrant.Law where
  credit := law.credit
  noChunk := law.noChunk
  word := nofun
  clocks := nofun
  idle := fun _ => rfl
  strobed := nofun
  decision := fun _ _ => nofun

/-- A granted access: the credit rises only while a chunk request waits, and stands below 16 then (R181 item 2). -/
theorem MemoryPort.Law.grantAgent {m : MemoryPort} (law : m.Law) (n : AgentId) (a : Access) {w : Bool}
    (waits : w = true → m.chunk ≠ none ∧ m.credit < 16) : (m.grantAgent n a w).Law where
  credit := by
    simp only [MemoryPort.grantAgent]
    split
    next set => exact (waits set).2
    next => exact law.credit
  noChunk := by
    intro none_
    simp only [MemoryPort.grantAgent]
    split
    next set => exact absurd none_ (waits set).1
    next => exact law.noChunk none_
  word := nofun
  clocks := fun k e => by cases e; decide
  idle := nofun
  strobed := fun _ _ _ => nofun
  decision := nofun

theorem MemoryPort.Law.grantChunk {m : MemoryPort} (c : Chunk) : (m.grantChunk c).Law where
  credit := Nat.zero_le _
  noChunk := fun _ => rfl
  word := fun d k e => by cases e; decide
  clocks := fun k e => by cases e; decide
  idle := nofun
  strobed := nofun
  decision := nofun

theorem MemoryPort.Law.decideAll {m : MemoryPort} (law : m.Law) : m.decideAll.Law := by
  unfold MemoryPort.decideAll
  split
  next => exact MemoryPort.Law.grantChunk _
  next c n a chunk _ =>
    split
    next => exact MemoryPort.Law.grantChunk _
    next below => exact law.grantAgent n a fun _ => ⟨by rw [chunk]; exact nofun, Nat.not_le.mp below⟩
  next => exact law.grantAgent _ _ nofun
  next chunk none_ =>
    have noAgent : m.agentWaiting = false := MemoryPort.nextAgent_none_iff_notWaiting.mp none_
    exact ⟨law.credit, law.noChunk, law.word, law.clocks, law.idle, law.strobed, fun _ waits =>
      (waits.elim (fun h => Bool.false_ne_true (noAgent.symm.trans h)) fun h => h chunk).elim⟩

theorem MemoryPort.Law.decide {m : MemoryPort} (law : m.Law) : m.decide.Law := by
  unfold MemoryPort.decide
  split
  next => exact law
  next =>
    split
    · exact law.grantAgent _ _ nofun
    · exact law.decideAll
  next =>
    split
    · exact MemoryPort.Law.grantChunk _
    · exact law.decideAll
  next => exact law.decideAll
  next => exact law.decideAll

theorem MemoryPort.Move.law {m k : MemoryPort} (h : m.Move k) (law : m.Law) : k.Law := by
  cases h with
  | chunk => exact law.requestChunk _
  | decided => exact law.decide
  | next grant more =>
    exact ⟨law.credit, law.noChunk, fun d k e => by cases e; exact more, nofun, nofun, nofun, nofun⟩
  | clocked grant below =>
    have granted : m.grant ≠ none := by
      rw [grant]
      exact Option.some_ne_none _
    exact ⟨law.credit, law.noChunk, law.word, fun k e => by cases e; exact below,
      fun none_ => absurd none_ granted, fun _ _ _ => nofun, fun none_ => absurd none_ granted⟩

/-! ### The forwarded accesses -/

theorem MemoryPort.forwardedOf_eq (m : MemoryPort) (n : AgentId) :
    m.forwardedOf n = m.requests[n].toList ++
      (match m.grant with | some (.agent k a) => if k = n then [a] else [] | _ => []) := by
  unfold MemoryPort.forwardedOf
  cases m.requests[n] <;> rfl

/-- A grant passes the request on: the port's forwarded accesses stay (R181). -/
theorem MemoryPort.forwardedOf_grantAgent {m : MemoryPort} (grant : m.grant = none) {n : AgentId} {a : Access}
    (request : m.requests[n] = some a) (w : Bool) (k : AgentId) :
    (m.grantAgent n a w).forwardedOf k = m.forwardedOf k := by
  have requests : (m.grantAgent n a w).requests[k] = if n = k then none else m.requests[k] := by
    simp only [MemoryPort.grantAgent, Fin.getElem_fin, Vector.getElem_set, Fin.val_inj]
  rw [MemoryPort.forwardedOf_eq, MemoryPort.forwardedOf_eq, requests, grant]
  by_cases eq : n = k
  · subst eq
    simp [MemoryPort.grantAgent, request]
  · simp [MemoryPort.grantAgent, eq]

theorem MemoryPort.forwardedOf_grantChunk {m : MemoryPort} (grant : m.grant = none) (c : Chunk) (k : AgentId) :
    (m.grantChunk c).forwardedOf k = m.forwardedOf k := by
  rw [MemoryPort.forwardedOf_eq, MemoryPort.forwardedOf_eq, grant]
  rfl

theorem MemoryPort.forwardedOf_decideAll {m : MemoryPort} (grant : m.grant = none) (k : AgentId) :
    m.decideAll.forwardedOf k = m.forwardedOf k := by
  unfold MemoryPort.decideAll
  split
  next => exact MemoryPort.forwardedOf_grantChunk grant _ k
  next chosen =>
    split
    · exact MemoryPort.forwardedOf_grantChunk grant _ k
    · exact MemoryPort.forwardedOf_grantAgent grant (MemoryPort.nextAgent_request chosen) true k
  next chosen => exact MemoryPort.forwardedOf_grantAgent grant (MemoryPort.nextAgent_request chosen) false k
  next => rfl

theorem MemoryPort.Move.forwardedOf {m m' : MemoryPort} (h : m.Move m') (k : AgentId) :
    m'.forwardedOf k = m.forwardedOf k := by
  cases h with
  | chunk => rfl
  | decided =>
    unfold MemoryPort.decide
    split
    next => rfl
    next grant _ =>
      split
      next request => exact MemoryPort.forwardedOf_grantAgent grant request false k
      next => exact MemoryPort.forwardedOf_decideAll grant k
    next grant _ =>
      split
      next => exact MemoryPort.forwardedOf_grantChunk grant _ k
      next => exact MemoryPort.forwardedOf_decideAll grant k
    next grant _ => exact MemoryPort.forwardedOf_decideAll grant k
    next grant _ => exact MemoryPort.forwardedOf_decideAll grant k
  | next grant more =>
    rw [MemoryPort.forwardedOf_eq, MemoryPort.forwardedOf_eq, grant]
    rfl
  | clocked grant below => rfl

/-! ## Claims that move the Memory Port -/

/-- From s to t the Memory Port has moved, without a forwarding or an end of a grant. -/
def State.PortMoves (s t : State) : Prop := Moves MemoryPort.Move s.memPort t.memPort

theorem State.PortMoves.refl (s : State) : s.PortMoves s := Moves.refl

theorem State.PortMoves.trans {s t u : State} (h : s.PortMoves t) (k : t.PortMoves u) : s.PortMoves u :=
  Moves.trans h k

theorem State.PortMoves.of_touches {s t : State} {L : List Aspect} (h : s.Touches L t) (apart : .memPort ∉ L) :
    s.PortMoves t := by
  have memPort : t.memPort = s.memPort := h .memPort apart
  rw [State.PortMoves, memPort]
  exact .refl

theorem State.PortMoves.single {s : State} {m : MemoryPort} (h : s.memPort.Move m) : s.PortMoves (s.setMemPort m) :=
  Moves.single h

theorem State.PortMoves.keeps {s t : State} {P : MemoryPort → Prop} (step : ∀ a b, a.Move b → P a → P b)
    (h : s.PortMoves t) (p : P s.memPort) : P t.memPort := by
  have all : ∀ {m}, Moves MemoryPort.Move s.memPort m → P m := fun r => by
    induction r with
    | refl => exact p
    | tail _ move ih => exact step _ _ move ih
  exact all h

theorem foldl_portMoves {β : Type} {f : State → β → State} (h : ∀ (s : State) x, s.PortMoves (f s x)) (l : List β)
    (s : State) : s.PortMoves (l.foldl f s) :=
  foldl_invariant (P := fun t => s.PortMoves t) (fun t x ht => ht.trans (h t x)) l s (.refl s)

section
variable (s : State)

theorem State.requestChunk_portMoves : s.PortMoves s.requestChunk := by
  unfold State.requestChunk
  split
  · exact .refl s
  · split
    · exact .refl s
    · exact .single .chunk

theorem State.setScrub_portMoves (x : ScrubEngine) : s.PortMoves (s.setScrub x) :=
  .of_touches (s.setScrub_touches x) (by decide)

theorem State.joinQueue_portMoves (i : EntryId) : s.PortMoves (s.joinQueue i) := by
  by_cases idle : s.scrub.mode = .idle
  · rw [s.joinQueue_of_idle i idle]
    exact (s.setScrub_portMoves _).trans (State.requestChunk_portMoves _)
  · rw [s.joinQueue_of_busy i idle]
    exact s.setScrub_portMoves _

theorem State.moveEngine_portMoves : s.PortMoves s.moveEngine := by
  unfold State.moveEngine
  dsimp only
  split
  · split
    · exact s.setScrub_portMoves _
    · split
      · exact s.setScrub_portMoves _
      · exact s.requestChunk_portMoves
  · exact s.setScrub_portMoves _
  all_goals exact .refl s

theorem State.drained_portMoves (i : EntryId) (l : Lease) : s.PortMoves (s.drained i l) := by
  unfold State.drained
  split
  · exact .of_touches (s.freeEntry_touches i) (by decide)
  · exact s.joinQueue_portMoves i

theorem State.setEntry_portMoves (i : EntryId) (e : Entry) : s.PortMoves (s.setEntry i e) :=
  .of_touches (s.setEntry_touches i e) (by decide)

theorem State.retire_portMoves (i : EntryId) : s.PortMoves (s.retire i) := by
  unfold State.retire
  split
  · dsimp only
    split
    · exact s.setEntry_portMoves i _
    · exact (s.setEntry_portMoves i _).trans (State.drained_portMoves _ i _)
  all_goals exact .refl s

theorem State.drainEntry_portMoves (n : AgentId) (i : EntryId) : s.PortMoves (State.drainEntry n s i) := by
  unfold State.drainEntry
  split
  · split
    · exact (s.setEntry_portMoves i _).trans (State.drained_portMoves _ i _)
    · exact .refl s
  all_goals exact .refl s

theorem State.tickEntry_portMoves (i : EntryId) : s.PortMoves (s.tickEntry i) := by
  have counted : ∀ v, s.PortMoves (s.setActive i v) := fun v => s.setEntry_portMoves i _
  have raised : ∀ (t : State) c n, t.PortMoves (t.raise c n) := fun t c n =>
    .of_touches (t.raise_touches c n) (by decide)
  unfold State.tickEntry
  split
  · split
    · exact .refl s
    · dsimp only
      split
      · exact ((counted _).trans (State.retire_portMoves _ i)).trans (raised _ _ _)
      · split
        · exact (counted _).trans (raised _ _ _)
        · exact counted _
  all_goals exact .refl s

theorem State.leaseTick_portMoves : s.PortMoves s.leaseTick := by
  unfold State.leaseTick
  split
  · exact .refl s
  next k _ =>
    have due : s.PortMoves { s with leases := { s.leases with ticksDue := k } } := Moves.refl
    exact due.trans (foldl_portMoves (fun u i => u.tickEntry_portMoves i) allEntries _)

theorem State.teardown_portMoves (n : AgentId) : s.PortMoves (s.teardown n) := by
  have entry : ∀ (u : State) i, u.PortMoves (State.teardownEntry n u i) := by
    intro u i
    unfold State.teardownEntry
    split
    · exact u.retire_portMoves i
    · exact .refl u
  have rest : ∀ u : State, (u.forEntries (State.teardownOffer n)).memPort = u.memPort := by
    refine State.forEntries_keeps State.memPort fun u i => ?_
    unfold State.teardownOffer
    split
    · split <;> rfl
    all_goals rfl
  have waits : ∀ u : State, (allWaits.foldl (State.teardownWait n) u).memPort = u.memPort := by
    refine foldl_keeps State.memPort (fun u w => ?_) allWaits
    unfold State.teardownWait
    split <;> rfl
  have same : (s.teardown n).memPort = (s.forEntries (State.teardownEntry n)).memPort := by
    simp only [State.teardown, State.teardownWindow, State.setReexamine_memPort, State.setPort_memPort,
      State.emptyStatus_memPort]
    rw [waits, rest]
  have entries : s.PortMoves (s.forEntries (State.teardownEntry n)) := foldl_portMoves entry allEntries s
  rwa [State.PortMoves, same]

theorem State.chunkDone_portMoves : s.PortMoves s.chunkDone := by
  have moved : ∀ (t : State) x, t.PortMoves (t.setScrub x).moveEngine := fun t x =>
    (t.setScrub_portMoves x).trans (State.moveEngine_portMoves _)
  unfold State.chunkDone
  dsimp only
  split
  · exact moved s _
  · split
    · split
      · exact (State.PortMoves.of_touches (s.freeEntry_touches _) (by decide)).trans (moved _ _)
      · exact moved s _
    · exact moved s _

theorem State.chunkFailed_portMoves : s.PortMoves s.chunkFailed := by
  have failed : ∀ i e x, s.PortMoves ((((s.setEntry i e).setScrub x).raise .scrubFail 0).moveEngine) := fun i e x =>
    (((s.setEntry_portMoves i e).trans (State.setScrub_portMoves _ x)).trans
      (.of_touches (State.raise_touches _ .scrubFail 0) (by decide))).trans (State.moveEngine_portMoves _)
  unfold State.chunkFailed
  split
  · exact s.moveEngine_portMoves
  · split
    · exact failed _ _ _
    · exact s.moveEngine_portMoves

theorem Command.run_portMoves (c : Command) (n : AgentId) (ps : Vector Word 8) : s.PortMoves (c.run n ps s).1 := by
  have kept : ∀ c : Command, .memPort ∉ c.footprint → s.PortMoves (c.run n ps s).1 := fun c apart =>
    .of_touches (c.run_touches n ps s) apart
  cases c with
  | release =>
    simp only [Command.run, State.release]
    split
    · exact .refl s
    · exact State.check_of (.refl s) fun _ => s.retire_portMoves _
  | revoke =>
    simp only [Command.run, State.revoke]
    split
    · exact .refl s
    · exact (s.retire_portMoves _).trans (.of_touches (State.raise_touches _ .revoked _) (by decide))
  | retry =>
    simp only [Command.run, State.retry]
    split
    · exact .refl s
    · exact (s.setEntry_portMoves _ _).trans (State.joinQueue_portMoves _ _)
  | scrubGo =>
    simp only [Command.run, State.scrubGo]
    split
    · split
      · exact s.setScrub_portMoves _
      · exact (s.setScrub_portMoves _).trans (State.requestChunk_portMoves _)
    · split
      · exact s.setScrub_portMoves _
      · exact .refl s
    · exact s.setScrub_portMoves _
    · exact .refl s
  | _ => exact kept _ (by decide)

end

end Sys2Proof.Machine
end

section
/-! SUPPORT. R4, R32, R36, R107, R180 to R184: the laws of the markers, of the drains and of the Memory Port, kept by every
step. -/

namespace Sys2Proof.Machine

/-! ## The ends of the words -/

theorem MemoryPort.grant_of_wordInProgress {m : MemoryPort} {g : Grant} (h : m.wordInProgress = some g) :
    m.grant = some g := by
  unfold MemoryPort.wordInProgress at h
  split at h
  · exact h
  · cases h

/-- A law is kept by every end of a word, where the end of an access keeps it, the end of a chunk's word and of a chunk,
and what the array takes. -/
theorem State.wordDone_keeps {P : State → Prop} (sram : ∀ (s t : State), s.Touches [.sram] t → P s → P t)
    (access : ∀ (s : State) n a b r, s.memPort.grant = some (.agent n a) → P s → P (s.completeAccess n b r))
    (next : ∀ (s : State) c k, s.memPort.grant = some (.chunk c k) → k < 63 → P s → P (s.setMemPort (s.memPort.nextWord c k)))
    (chunk : ∀ (s : State) c k, s.memPort.grant = some (.chunk c k) → P s → P ((s.setMemPort s.memPort.endGrant).chunkDone))
    {s : State} (p : P s) : P s.wordDone := by
  have taken : ∀ l, P (s.takeWord l) ∧ (s.takeWord l).memPort = s.memPort := fun l =>
    ⟨sram _ _ (s.takeWord_touches l) p, s.takeWord_memPort l⟩
  unfold State.wordDone
  split
  next => exact p
  next n a word =>
    have grant := MemoryPort.grant_of_wordInProgress word
    unfold State.accessDone
    split
    · obtain ⟨p, same⟩ := taken a.lines
      exact access _ n a _ _ (same ▸ grant) p
    · exact access s n a _ _ grant p
    · exact access s n a _ _ grant p
  next c k word =>
    have grant := MemoryPort.grant_of_wordInProgress word
    obtain ⟨p, same⟩ := taken (c.lines k)
    dsimp only
    split
    next more => exact next _ c k (same ▸ grant) more p
    next => exact chunk _ c k (same ▸ grant) p

theorem State.wordFailed_keeps {P : State → Prop} (sram : ∀ (s t : State), s.Touches [.sram] t → P s → P t)
    (access : ∀ (s : State) n a b r, s.memPort.grant = some (.agent n a) → P s → P (s.completeAccess n b r))
    (chunk : ∀ (s : State) c k, s.memPort.grant = some (.chunk c k) → P s →
      P ((s.setMemPort s.memPort.endGrant).chunkFailed))
    {s : State} (p : P s) : P s.wordFailed := by
  have left : ∀ x, P (s.leaveWord x) := fun x => sram _ _ (s.leaveWord_touches x) p
  have same : ∀ x, (s.leaveWord x).memPort = s.memPort := fun x => s.leaveWord_touches x .memPort (by decide)
  unfold State.wordFailed
  split
  next => exact p
  next n a word =>
    have grant := MemoryPort.grant_of_wordInProgress word
    rw [State.accessFailed]
    exact access _ n a _ _ (by rw [same]; exact grant) (left _)
  next c k word =>
    have grant := MemoryPort.grant_of_wordInProgress word
    rw [← same (c.wordLine k)]
    exact chunk _ c k (by rw [same]; exact grant) (left _)

/-- A law is kept by every clock that a tick keeps, a clock of a word, and the failure of a word (R182). -/
theorem State.clock_keeps {P : State → Prop} (divider : ∀ (s t : State), s.Touches [.timebase] t → P s → P t)
    (clocked : ∀ (s : State) g k, s.memPort.grant = some g → k < 256 → P s →
      P (s.setMemPort { s.memPort with strobe := some k }))
    (failed : ∀ s : State, P s → P s.wordFailed) {s : State} (p : P s) : P s.clock := by
  have divided := divider _ _ s.clockDivider_touches p
  unfold State.clock
  split
  · exact p
  · unfold State.clockWord
    split
    next => exact divided
    next g grant _ => exact clocked _ g 0 grant (by decide) divided
    next g k grant _ =>
      split
      next below => exact clocked _ g (k + 1) grant below divided
      next => exact failed _ divided

/-! ## The Memory Port's limits (R180 to R184) -/

theorem State.memoryPortLaw_looksAt : LooksAt State.MemoryPortLaw [.memPort] := by
  intro s t same law
  have memPort : t.memPort = s.memPort := same .memPort (by decide)
  simpa only [State.MemoryPortLaw, memPort] using law

theorem State.MemoryPortLaw.of_touches {s t : State} {L : List Aspect} (law : s.MemoryPortLaw) (h : s.Touches L t)
    (apart : .memPort ∉ L) : t.MemoryPortLaw :=
  State.memoryPortLaw_looksAt.of_touches h (fun _ ha => List.mem_singleton.mp ha ▸ apart) law

theorem State.MemoryPortLaw.of_portMoves {s t : State} (law : s.MemoryPortLaw) (h : s.PortMoves t) :
    t.MemoryPortLaw :=
  (t.memoryPortLaw_iff).mpr (h.keeps (P := MemoryPort.Law) (fun _ _ move law => move.law law) ((s.memoryPortLaw_iff).mp law))

theorem State.MemoryPortLaw.endGrant {s : State} (law : s.MemoryPortLaw) :
    (s.setMemPort s.memPort.endGrant).MemoryPortLaw :=
  (State.memoryPortLaw_iff _).mpr ((s.memoryPortLaw_iff).mp law).endGrant

/-- The port of a completed access, with the grant ended, before the drain of the entries (R34 to R36). -/
theorem State.completeAccess_eq (s : State) (n : AgentId) (b : BusAnswer) (r : List FaultReport) :
    ∃ p : Port, p.marker = none ∧ s.completeAccess n b r =
      ((s.setPort n p).setMemPort s.memPort.endGrant).forEntries (State.drainEntry n) := ⟨_, rfl, rfl⟩

theorem State.MemoryPortLaw.completeAccess {s : State} (law : s.MemoryPortLaw) (n : AgentId) (b : BusAnswer)
    (r : List FaultReport) : (s.completeAccess n b r).MemoryPortLaw := by
  obtain ⟨p, -, e⟩ := s.completeAccess_eq n b r
  rw [e]
  have ended : ((s.setPort n p).setMemPort s.memPort.endGrant).MemoryPortLaw :=
    State.MemoryPortLaw.endGrant (s := s.setPort n p) (law.of_touches (s.setPort_touches n p) (by decide))
  exact ended.of_portMoves (foldl_portMoves (fun u i => u.drainEntry_portMoves n i) allEntries _)

theorem State.MemoryPortLaw.wordFailed {s : State} (law : s.MemoryPortLaw) : s.wordFailed.MemoryPortLaw :=
  State.wordFailed_keeps (P := State.MemoryPortLaw) (fun _ _ touches law => law.of_touches touches (by decide))
    (fun _ n _ b r _ law => law.completeAccess n b r)
    (fun _ _ _ _ law => law.endGrant.of_portMoves (State.chunkFailed_portMoves _)) law

theorem State.MemoryPortLaw.wordDone {s : State} (law : s.MemoryPortLaw) : s.wordDone.MemoryPortLaw :=
  State.wordDone_keeps (P := State.MemoryPortLaw) (fun _ _ touches law => law.of_touches touches (by decide))
    (fun _ n _ b r _ law => law.completeAccess n b r)
    (fun _ _ _ grant more law => law.of_portMoves (.single (.next grant more)))
    (fun _ _ _ _ law => law.endGrant.of_portMoves (State.chunkDone_portMoves _)) law

theorem State.MemoryPortLaw.clock {s : State} (law : s.MemoryPortLaw) : s.clock.MemoryPortLaw :=
  State.clock_keeps (P := State.MemoryPortLaw) (fun _ _ touches law => law.of_touches touches (by decide))
    (fun _ _ _ grant below law => law.of_portMoves (.single (.clocked grant below))) (fun _ law => law.wordFailed) law

theorem State.MemoryPortLaw.decodeAccess {s : State} (law : s.MemoryPortLaw) (n : AgentId) (c : MemCycle) :
    (s.decodeAccess n c).MemoryPortLaw := by
  have answered : ∀ b, (s.answerMem n b).MemoryPortLaw := fun b => law.of_touches (s.answerMem_touches n b) (by decide)
  unfold State.decodeAccess
  split
  next => exact answered _
  next a _ =>
    split
    · exact answered _
    · split
      · exact (answered _).of_touches (State.handReport_touches _ n _) (by decide)
      · have reloaded := (s.memoryPortLaw_iff).mp law
        refine (State.memoryPortLaw_iff _).mpr ?_
        have same : (s.reloadCovering n a.info.addr).memPort = s.memPort :=
          s.reloadCovering_touches n a.info.addr .memPort (by decide)
        have forwarded : (s.forward n a).memPort = s.memPort.requestAgent n a := by
          rw [State.forward, State.setMemPort_memPort, same]
        rw [forwarded]
        exact reloaded.requestAgent n a

/-- A law is kept by ACCESS_DECODE where the decode of an access that is taken keeps it. -/
theorem execAccessDecode_keeps {P : State → Prop} (held : ∀ (s t : State), s.Touches [] t → P s → P t)
    (decode : ∀ (s : State) n c, (s.port n).marker = none → P s → P (s.decodeAccess n c)) {n : AgentId} {c : MemSelect}
    {s t : State} (h : execAccessDecode n c s = .next t) (p : P s) : P t := by
  have taken : ∀ m, s.takesAccess n = true → P ((s.setHeld n none).decodeAccess n m) := by
    intro m takes
    refine decode _ n m ?_ (held _ _ (s.setHeld_touches n none) p)
    simp only [State.takesAccess, Bool.and_eq_true, Option.isNone_iff_eq_none] at takes
    rw [s.setHeld_touches n none .markers (by decide) n]
    exact takes.2
  unfold execAccessDecode at h
  split at h
  · split at h <;> cases h
    next takes => exact taken _ takes
    next => exact held _ _ (s.setHeld_touches n _) p
  · split at h <;> cases h
    next takes => exact taken _ takes
    next => exact p
  · cases h; exact p

theorem State.reset_memoryPortLaw : State.reset.MemoryPortLaw := by
  refine (State.memoryPortLaw_iff _).mpr ⟨by decide, fun _ => rfl, nofun, nofun, fun _ => rfl, nofun, fun _ waits => ?_⟩
  exact (waits.elim (fun h => absurd h (by decide)) fun h => h rfl).elim

/-- A claim of a tick at the Lease Table, or EXPIRY, is nothing or the tick's claim there (R139, R142). -/
theorem execExpiry_cases {s t : State} (h : execExpiry s = .next t) : t = s.leaseTick ∨ t = s := by
  unfold execExpiry at h
  split at h <;> cases h
  · exact .inl rfl
  · exact .inr rfl

theorem execTeardown_cases {s t : State} (h : execTeardown s = .next t) :
    (∃ n, s.manager.job = some (.teardown n) ∧ t = (s.teardown n).setJob none) ∨ t = s := by
  unfold execTeardown at h
  split at h
  next n job => exact .inl ⟨n, job, (Host.Outcome.next.inj h).symm⟩
  all_goals cases h; exact .inr rfl

theorem State.MemoryPortLaw.step {s t : State} (law : s.MemoryPortLaw) (h : step s = .next t) : t.MemoryPortLaw := by
  have completion := State.memoryPortLaw_looksAt.completion (by decide)
  refine step_keeps_law State.memoryPortLaw_looksAt (fun s n c r _ => completion s n c r)
    (fun c n ps s _ _ _ law => completion _ n _ _ (law.of_portMoves (c.run_portMoves s n ps))) ?claim
    (fun _ law => law.clock) law h
  case claim =>
    intro i s t touched h law
    cases i with
    | accessDecode n c =>
      exact execAccessDecode_keeps (P := State.MemoryPortLaw) (fun _ _ touches law => law.of_touches touches (by decide))
        (fun _ n c _ law => law.decodeAccess n c) h law
    | memoryGrant => cases h; exact law.of_portMoves (.single .decided)
    | mack => cases h; exact law.wordDone
    | merr m => cases h; exact law.wordFailed
    | acknowledgeTimeout => cases h; exact law.wordFailed
    | teardown =>
      rcases execTeardown_cases h with ⟨n, -, e⟩ | e
      · rw [e]
        exact (law.of_portMoves (s.teardown_portMoves n)).of_touches (State.setJob_touches _ none) (by decide)
      · rwa [e]
    | tick c =>
      cases c with
      | leaseTable => cases h; exact law.of_portMoves s.leaseTick_portMoves
      | _ => exact (Bool.false_ne_true touched).elim
    | expiry =>
      rcases execExpiry_cases h with e | e
      · rw [e]; exact law.of_portMoves s.leaseTick_portMoves
      · rwa [e]
    | resetAssert => cases h; exact State.memoryPortLaw_looksAt.of_reset (by decide) State.reset_memoryPortLaw _
    | _ => exact (Bool.false_ne_true touched).elim

/-! ## The markers (R27, R32) -/

theorem State.markerLaw_looksAt : LooksAt State.MarkerLaw [.markers, .memPort] := by
  intro s t same law
  have memPort : t.memPort = s.memPort := same .memPort (by decide)
  have markers : ∀ n, (t.port n).marker = (s.port n).marker := same .markers (by decide)
  simpa only [State.MarkerLaw, memPort, markers] using law

/-- The markers record the same accesses, whatever their discard flags. -/
def State.SameMarkers (s t : State) : Prop :=
  ∀ n, (t.port n).marker.map (·.info) = (s.port n).marker.map (·.info)

theorem State.SameMarkers.of_touches {s t : State} {L : List Aspect} (h : s.Touches L t) (apart : .markers ∉ L) :
    s.SameMarkers t := fun n => by rw [h .markers apart n]

theorem State.detachEvent_sameMarkers (s : State) (n : AgentId) : s.SameMarkers (s.detachEvent n) := by
  intro m
  by_cases h : (s.port n).window = .detaching
  · rw [s.detachEvent_of_detaching h]
  · rw [s.detachEvent_of_attached h, State.setJobList_port, State.setPort_port]
    split
    next eq =>
      subst eq
      rw [Option.map_map]
      rfl
    next => rfl

theorem State.SameMarkers.trans {s t u : State} (h : s.SameMarkers t) (k : t.SameMarkers u) : s.SameMarkers u :=
  fun n => (k n).trans (h n)

/-- The law of one port: what it has forwarded, and what its marker records. -/
theorem State.markerLaw_iff (s : State) :
    s.MarkerLaw ↔ ∀ n, (s.memPort.forwardedOf n).map (·.info) = ((s.port n).marker.map (·.info)).toList ∧
      ∀ i ∈ (s.port n).marker.map (·.info), i.addr.toNat % i.size.bytes = 0 := by
  simp only [State.MarkerLaw, Option.mem_def, Option.map_eq_some_iff, forall_exists_index, and_imp,
    forall_apply_eq_imp_iff₂]

theorem State.MarkerLaw.of_same {s t : State} (law : s.MarkerLaw) (markers : s.SameMarkers t)
    (forwarded : ∀ n, t.memPort.forwardedOf n = s.memPort.forwardedOf n) : t.MarkerLaw := by
  rw [State.markerLaw_iff] at law ⊢
  intro n
  rw [forwarded, markers]
  exact law n

theorem State.PortMoves.forwardedOf {s t : State} (h : s.PortMoves t) (n : AgentId) :
    t.memPort.forwardedOf n = s.memPort.forwardedOf n :=
  h.keeps (P := fun m => m.forwardedOf n = s.memPort.forwardedOf n) (fun _ _ move e => (move.forwardedOf n).trans e) rfl

theorem State.MarkerLaw.of_touches {s t : State} {L : List Aspect} (law : s.MarkerLaw) (h : s.Touches L t)
    (apart : ∀ a ∈ [Aspect.markers, .memPort], a ∉ L) : t.MarkerLaw :=
  State.markerLaw_looksAt.of_touches h apart law

/-- A grant that is no agent's ends: no port's forwarded access changes. -/
theorem MemoryPort.forwardedOf_endGrant {m : MemoryPort} {c : Chunk} {k : Nat} (grant : m.grant = some (.chunk c k))
    (n : AgentId) : m.endGrant.forwardedOf n = m.forwardedOf n := by
  rw [MemoryPort.forwardedOf_eq, MemoryPort.forwardedOf_eq, grant]
  rfl

/-- The end of agent n's grant takes the one access that its marker records (R32, R34). -/
theorem State.MarkerLaw.endAccess {s : State} (law : s.MarkerLaw) {n : AgentId} {a : Access}
    (grant : s.memPort.grant = some (.agent n a)) {p : Port} (clear : p.marker = none) :
    ((s.setPort n p).setMemPort s.memPort.endGrant).MarkerLaw := by
  intro k
  obtain ⟨records, aligned⟩ := law k
  rw [State.setMemPort_memPort, State.setMemPort_port, State.setPort_port]
  rw [MemoryPort.forwardedOf_eq, grant] at records
  have ended : s.memPort.endGrant.forwardedOf k = s.memPort.requests[k].toList := by
    rw [MemoryPort.forwardedOf_eq]
    exact List.append_nil _
  rw [ended]
  by_cases eq : n = k
  · subst eq
    rw [if_pos rfl, clear]
    refine ⟨?_, nofun⟩
    -- one access is forwarded in all, and that is the granted one
    cases waits : s.memPort.requests[n] with
    | none => rfl
    | some b =>
      have two := congrArg List.length records
      rw [waits] at two
      cases marker : (s.port n).marker <;> simp [marker] at two
  · rw [if_neg eq]
    simp only [if_neg eq, List.append_nil] at records
    exact ⟨records, aligned⟩

theorem State.MarkerLaw.completeAccess {s : State} (law : s.MarkerLaw) {n : AgentId} {a : Access}
    (grant : s.memPort.grant = some (.agent n a)) (b : BusAnswer) (r : List FaultReport) :
    (s.completeAccess n b r).MarkerLaw := by
  obtain ⟨p, clear, e⟩ := s.completeAccess_eq n b r
  rw [e]
  refine (law.endAccess grant clear).of_same (.of_touches (L := [.entries, .scrub, .memPort]) ?_ (by decide)) ?_
  · exact State.forEntries_touches (fun u i => u.drainEntry_touches n i) _
  · exact (foldl_portMoves (fun u i => u.drainEntry_portMoves n i) allEntries _).forwardedOf

theorem State.MarkerLaw.endChunk {s t : State} (law : s.MarkerLaw) {c : Chunk} {k : Nat}
    (grant : s.memPort.grant = some (.chunk c k)) (moves : (s.setMemPort s.memPort.endGrant).PortMoves t)
    {L : List Aspect} (touches : (s.setMemPort s.memPort.endGrant).Touches L t) (apart : .markers ∉ L) :
    t.MarkerLaw := by
  refine law.of_same ?_ fun n => (moves.forwardedOf n).trans (MemoryPort.forwardedOf_endGrant grant n)
  exact State.SameMarkers.trans (.of_touches (s.setMemPort_touches _) (by decide)) (.of_touches touches apart)

theorem State.MarkerLaw.setMemPort {s : State} (law : s.MarkerLaw) {m : MemoryPort} (move : s.memPort.Move m) :
    (s.setMemPort m).MarkerLaw :=
  law.of_same (.of_touches (s.setMemPort_touches m) (by decide)) (State.PortMoves.single move).forwardedOf

theorem State.MarkerLaw.wordFailed {s : State} (law : s.MarkerLaw) : s.wordFailed.MarkerLaw :=
  State.wordFailed_keeps (P := State.MarkerLaw) (fun _ _ touches law => law.of_touches touches (by decide))
    (fun _ _ _ b r grant law => law.completeAccess grant b r)
    (fun _ _ _ grant law => law.endChunk grant (State.chunkFailed_portMoves _) (State.chunkFailed_touches _) (by decide))
    law

theorem State.MarkerLaw.wordDone {s : State} (law : s.MarkerLaw) : s.wordDone.MarkerLaw :=
  State.wordDone_keeps (P := State.MarkerLaw) (fun _ _ touches law => law.of_touches touches (by decide))
    (fun _ _ _ b r grant law => law.completeAccess grant b r)
    (fun _ _ _ grant more law => law.setMemPort (.next grant more))
    (fun _ _ _ grant law => law.endChunk grant (State.chunkDone_portMoves _) (State.chunkDone_touches _) (by decide)) law

theorem State.MarkerLaw.clock {s : State} (law : s.MarkerLaw) : s.clock.MarkerLaw :=
  State.clock_keeps (P := State.MarkerLaw) (fun _ _ touches law => law.of_touches touches (by decide))
    (fun _ _ _ grant below law => law.setMemPort (.clocked grant below)) (fun _ law => law.wordFailed) law

/-- An access that is permitted is aligned (R25 check 2). -/
theorem State.aligned_of_permitted {s : State} {n : AgentId} {a : AccessInfo} (h : s.refusal n a = none) :
    a.addr.toNat % a.size.bytes = 0 := by
  unfold State.refusal at h
  split at h
  · cases h
  next aligned => simpa [AccessInfo.aligned] using aligned

/-- A permitted access of a port whose marker is clear is the one that its marker records (R31, R32). -/
theorem State.MarkerLaw.forward {s : State} (law : s.MarkerLaw) {n : AgentId} {a : Access}
    (clear : (s.port n).marker = none) (permitted : s.refusal n a.info = none) : (s.forward n a).MarkerLaw := by
  have reload := s.reloadCovering_touches n a.info.addr
  have memPort : (s.reloadCovering n a.info.addr).memPort = s.memPort := reload .memPort (by decide)
  have markers : ∀ k, ((s.reloadCovering n a.info.addr).port k).marker = (s.port k).marker := reload .markers (by decide)
  intro k
  obtain ⟨records, aligned⟩ := law k
  have requests : (s.memPort.requestAgent n a).requests[k] = if n = k then some a else s.memPort.requests[k] := by
    simp only [MemoryPort.requestAgent, Fin.getElem_fin, Vector.getElem_set, Fin.val_inj]
  have grant : (s.memPort.requestAgent n a).grant = s.memPort.grant := rfl
  rw [State.forward, State.setMemPort_memPort, State.setMemPort_port, State.setPort_port, memPort,
    MemoryPort.forwardedOf_eq, requests, grant]
  rw [MemoryPort.forwardedOf_eq] at records
  by_cases eq : n = k
  · subst eq
    rw [clear] at records
    obtain ⟨-, none_granted⟩ := List.append_eq_nil_iff.mp (List.map_eq_nil_iff.mp records)
    rw [if_pos rfl, if_pos rfl, none_granted]
    exact ⟨rfl, fun m e => by cases e; exact State.aligned_of_permitted permitted⟩
  · rw [if_neg eq, if_neg eq, markers]
    exact ⟨records, aligned⟩

theorem State.MarkerLaw.decodeAccess {s : State} (law : s.MarkerLaw) {n : AgentId} (clear : (s.port n).marker = none)
    (c : MemCycle) : (s.decodeAccess n c).MarkerLaw := by
  have answered : ∀ b, (s.answerMem n b).MarkerLaw := fun b => law.of_touches (s.answerMem_touches n b) (by decide)
  unfold State.decodeAccess
  split
  · exact answered _
  · split
    · exact answered _
    · split
      · exact (answered _).of_touches (State.handReport_touches _ n _) (by decide)
      next permitted => exact law.forward clear permitted

theorem State.reset_markerLaw : State.reset.MarkerLaw := by
  have empty : ∀ n, State.reset.memPort.forwardedOf n = [] ∧ (State.reset.port n).marker = none := by decide
  intro n
  obtain ⟨forwarded, clear⟩ := empty n
  rw [forwarded, clear]
  exact ⟨rfl, nofun⟩

/-- The markers of all claims of the lines record what they recorded (R174). -/
theorem execResetRelease_sameMarkers {order : List AgentId} {s t : State} (h : execResetRelease order s = .next t) :
    s.SameMarkers t := by
  unfold execResetRelease at h
  split at h <;> cases h
  · refine foldl_invariant (P := fun u => s.SameMarkers u) (fun u n same => same.trans ?_) (order ++ allAgents) _
      fun _ => rfl
    unfold State.readLine
    split
    · exact u.detachEvent_sameMarkers n
    · exact fun _ => rfl
  · exact fun _ => rfl

theorem execAgrstAssert_sameMarkers {n : AgentId} {s t : State} (h : execAgrstAssert n s = .next t) :
    s.SameMarkers t := by
  have line : s.SameMarkers (s.setLine n true) := .of_touches (L := [.windows]) (s.setPort_touches_windows rfl) (by decide)
  unfold execAgrstAssert at h
  split at h
  · cases h; exact fun _ => rfl
  · split at h <;> cases h
    · exact line
    · exact line.trans (State.detachEvent_sameMarkers _ n)

theorem Command.run_sameMarkers (c : Command) (n : AgentId) (ps : Vector Word 8) (s : State) :
    s.SameMarkers (c.run n ps s).1 := by
  have kept : ∀ c : Command, .markers ∉ c.footprint → s.SameMarkers (c.run n ps s).1 := fun c apart =>
    .of_touches (c.run_touches n ps s) apart
  cases c with
  | detach =>
    simp only [Command.run, State.detach]
    split
    · exact fun _ => rfl
    next m _ => exact State.check_of (P := fun u => s.SameMarkers u) (fun _ => rfl) fun _ => s.detachEvent_sameMarkers m
  | _ => exact kept _ (by decide)

theorem State.MarkerLaw.step {s t : State} (law : s.MarkerLaw) (h : step s = .next t) : t.MarkerLaw := by
  have completion := State.markerLaw_looksAt.completion (by decide)
  refine step_keeps_law State.markerLaw_looksAt (fun s n c r _ => completion s n c r)
    (fun c n ps s _ _ _ law => completion _ n _ _
      (law.of_same (c.run_sameMarkers n ps s) (c.run_portMoves s n ps).forwardedOf)) ?claim
    (fun _ law => law.clock) law h
  case claim =>
    intro i s t touched h law
    have lines : s.SameMarkers t → .memPort ∉ claimFootprint i → commandOf i = none → i ≠ .badCmd → t.MarkerLaw :=
      fun same apart claim known => law.of_same same (State.PortMoves.of_touches (exec_touches h claim known) apart).forwardedOf
    cases i with
    | accessDecode n c =>
      exact execAccessDecode_keeps (P := State.MarkerLaw) (fun _ _ touches law => law.of_touches touches (by simp))
        (fun _ n c clear law => law.decodeAccess clear c) h law
    | memoryGrant => cases h; exact law.setMemPort .decided
    | mack => cases h; exact law.wordDone
    | merr m => cases h; exact law.wordFailed
    | acknowledgeTimeout => cases h; exact law.wordFailed
    | teardown =>
      rcases execTeardown_cases h with ⟨n, -, e⟩ | e
      · rw [e]
        have done := law.of_same (.of_touches (s.teardown_touches n) (by decide)) (s.teardown_portMoves n).forwardedOf
        exact done.of_touches (State.setJob_touches _ none) (by decide)
      · rwa [e]
    | tick c =>
      cases c with
      | leaseTable =>
        cases h
        exact law.of_same (.of_touches s.leaseTick_touches (by decide)) s.leaseTick_portMoves.forwardedOf
      | _ => exact (Bool.false_ne_true touched).elim
    | expiry =>
      rcases execExpiry_cases h with e | e
      · rw [e]
        exact law.of_same (.of_touches s.leaseTick_touches (by decide)) s.leaseTick_portMoves.forwardedOf
      · rwa [e]
    | agrstAssert n => exact lines (execAgrstAssert_sameMarkers h) (by simp only [claimFootprint]; decide) rfl nofun
    | resetRelease order => exact lines (execResetRelease_sameMarkers h) (by simp only [claimFootprint]; decide) rfl nofun
    | resetAssert => cases h; exact State.markerLaw_looksAt.of_reset (by decide) State.reset_markerLaw _
    | _ => exact (Bool.false_ne_true touched).elim

end Sys2Proof.Machine
end

section
/-! SUPPORT. R4, R36, R107: a draining entry has its former owner's access in flight inside its range. -/

namespace Sys2Proof.Machine

/-- An entry drains only while f says that its former owner has an access in flight inside the range. -/
def EntryBody.Drains (f : AgentId → Range → Bool) (b : EntryBody) : Prop :=
  ∀ o l, b = .retiring o l true → ∃ n, o = some n ∧ f n l.range = true

/-- The drain law, said of each entry's body as a predicate of that body. -/
def State.Drains (s : State) : Prop := ∀ i, (s.entry i).body.Drains s.inFlight

theorem EntryBody.drains_of_ne {f : AgentId → Range → Bool} {b : EntryBody} (other : ∀ o l, b ≠ .retiring o l true) :
    b.Drains f := fun o l e => absurd e (other o l)

@[simp] theorem EntryBody.active_drains (f : AgentId → Range → Bool) (n : AgentId) (l : Lease) (x : Option AgentId) :
    (EntryBody.active n l x).Drains f := drains_of_ne fun _ _ e => by cases e

@[simp] theorem EntryBody.faulted_drains (f : AgentId → Range → Bool) (l : Lease) : (EntryBody.faulted l).Drains f :=
  drains_of_ne fun _ _ e => by cases e

@[simp] theorem EntryBody.free_drains (f : AgentId → Range → Bool) : EntryBody.free.Drains f :=
  drains_of_ne fun _ _ e => by cases e

theorem State.drainLaw_iff (s : State) : s.DrainLaw ↔ s.Drains := by
  refine forall_congr' fun i => ?_
  cases (s.entry i).body with
  | retiring o l d =>
    constructor
    · intro law o l e
      cases e
      exact law rfl
    · intro drains draining
      exact drains o l (draining ▸ rfl)
  | _ => exact ⟨fun _ => by simp, fun _ => trivial⟩

theorem EntryBody.Turns.drains {f : AgentId → Range → Bool} {a b : EntryBody} (h : a.Turns f b) : b.Drains f := by
  intro o l e
  cases h with
  | retired drain => cases e; exact ⟨_, rfl, drain rfl⟩
  | expired life last drain => cases e; exact ⟨_, rfl, drain rfl⟩
  | _ => cases e

theorem State.Turns.drains {s t : State} {f : AgentId → Range → Bool} (h : s.Turns f t)
    (old : ∀ i, (s.entry i).body.Drains f) (i : EntryId) : (t.entry i).body.Drains f :=
  h.keeps (P := fun b => b.Drains f) (fun _ _ turn _ => turn.drains) i (old i)

theorem State.EntryEvent.drains {s t : State} (h : s.EntryEvent t) (law : s.Drains) (i : EntryId) :
    (t.entry i).body.Drains s.inFlight := by
  have set : ∀ {j b}, b.Drains s.inFlight → s.SetsBody j b t → (t.entry i).body.Drains s.inFlight := by
    intro j b new sets
    rw [sets i]
    split
    · exact new
    · exact law i
  cases h with
  | leasing h =>
    cases h with
    | turns h => exact h.drains law i
    | grant j n q free may asks sets => exact set (EntryBody.active_drains _ _ _ _) sets
    | accept j o n l body may sets => exact set (EntryBody.active_drains _ _ _ _) sets
  | fault j l body sets => exact set (EntryBody.faulted_drains _ _) sets

theorem EntryBody.Drains.mono {f g : AgentId → Range → Bool} {b : EntryBody} (h : b.Drains f)
    (le : ∀ n r, f n r = true → g n r = true) : b.Drains g := by
  intro o l e
  obtain ⟨n, owner, flight⟩ := h o l e
  exact ⟨n, owner, le n _ flight⟩

/-- An event after which every access in flight is still so keeps the law. -/
theorem State.Drains.of_entryEvent {s t : State} (law : s.Drains) (h : s.EntryEvent t)
    (flying : s.Flying t.inFlight) : t.Drains :=
  fun i => (h.drains law i).mono flying

theorem State.inFlight_of_marker {s t : State} {n : AgentId} (h : (t.port n).marker = (s.port n).marker) (r : Range) :
    t.inFlight n r = s.inFlight n r := by
  simp only [State.inFlight, h]

theorem State.Flying.of_markers {s t : State} (h : s.SameMarkers t) : s.Flying t.inFlight := by
  intro n r flight
  have same := h n
  simp only [State.inFlight] at flight ⊢
  cases old : (s.port n).marker with
  | none => rw [old] at flight; cases flight
  | some m =>
    rw [old] at flight same
    obtain ⟨m', new, info⟩ := Option.map_eq_some_iff.mp same
    rw [new]
    dsimp only at info flight ⊢
    rwa [info]

theorem State.Flying.of_touches {s t : State} {L : List Aspect} (h : s.Touches L t) (apart : .markers ∉ L) :
    s.Flying t.inFlight := .of_markers (.of_touches h apart)

theorem State.drains_looksAt : LooksAt State.Drains [.entries, .markers] := by
  intro s t same law
  have entries : t.leases.entries = s.leases.entries := same .entries (by decide)
  have markers : ∀ n, (t.port n).marker = (s.port n).marker := same .markers (by decide)
  have flight : t.inFlight = s.inFlight := funext fun n => funext fun r => State.inFlight_of_marker (markers n) r
  intro i
  rw [flight, State.entry, entries]
  exact law i

theorem State.Drains.of_touches {s t : State} {L : List Aspect} (law : s.Drains) (h : s.Touches L t)
    (apart : ∀ a ∈ [Aspect.entries, .markers], a ∉ L) : t.Drains :=
  State.drains_looksAt.of_touches h apart law

/-! ## The completion of an access (R36) -/

theorem State.drained_notDraining (s : State) {i : EntryId} {l : Lease} {g : BitVec 8} {o : Option AgentId}
    (body : s.entry i = { gen := g, body := .retiring o l false }) (k : Lease) :
    ((s.drained i l).entry i).body ≠ .retiring o k true := by
  unfold State.drained
  split
  · rw [State.freeEntry_entry, if_pos rfl]
    exact nofun
  · rw [State.joinQueue_entry, body]
    exact nofun

theorem State.drainEntry_notDraining (s : State) (n : AgentId) (i : EntryId) (k : Lease) :
    ((State.drainEntry n s i).entry i).body ≠ .retiring (some n) k true := by
  by_cases draining : ∃ l, (s.entry i).body = .retiring (some n) l true
  · obtain ⟨l, body⟩ := draining
    rw [s.drainEntry_of_draining (g := (s.entry i).gen) (l := l) (by rw [← body])]
    exact State.drained_notDraining _ (by rw [State.setEntry_entry, if_pos rfl]) k
  · rw [s.drainEntry_of_other fun l body => draining ⟨l, body⟩]
    exact fun body => draining ⟨k, body⟩

/-- After the completion of agent n's access no entry drains for n (R36). -/
theorem State.completeAccess_notDraining (s : State) (n : AgentId) (b : BusAnswer) (r : List FaultReport)
    (i : EntryId) (k : Lease) : ((s.completeAccess n b r).entry i).body ≠ .retiring (some n) k true := by
  obtain ⟨p, -, e⟩ := s.completeAccess_eq n b r
  rw [e]
  obtain ⟨u, -, -, entry⟩ := State.forEntries_entry (f := State.drainEntry n) (fun _ => ()) (fun _ _ => rfl)
    (fun u i j ne => u.drainEntry_entry_ne n ne) ((s.setPort n p).setMemPort s.memPort.endGrant) i
  rw [entry]
  exact u.drainEntry_notDraining n i k

/-- The markers of the other ports stand. -/
theorem State.completeAccess_marker_of_ne (s : State) {n m : AgentId} (ne : n ≠ m) (b : BusAnswer)
    (r : List FaultReport) : ((s.completeAccess n b r).port m).marker = (s.port m).marker := by
  obtain ⟨p, -, e⟩ := s.completeAccess_eq n b r
  have drains := State.forEntries_touches (fun u i => u.drainEntry_touches n i)
    ((s.setPort n p).setMemPort s.memPort.endGrant)
  rw [e, drains .markers (by decide) m, State.setMemPort_port, State.setPort_port, if_neg ne]

theorem State.Drains.completeAccess {s : State} (law : s.Drains) (n : AgentId) (b : BusAnswer)
    (r : List FaultReport) : (s.completeAccess n b r).Drains := by
  intro i o l draining
  have turns : s.Turns s.inFlight (s.completeAccess n b r) := s.completeAccess_turns n b r
  obtain ⟨m, owner, flight⟩ := turns.drains law i o l draining
  have other : n ≠ m := fun eq => s.completeAccess_notDraining n b r i l (by rw [draining, owner, eq])
  refine ⟨m, owner, ?_⟩
  rw [State.inFlight_of_marker (s.completeAccess_marker_of_ne other b r)]
  exact flight

theorem State.Drains.wordFailed {s : State} (law : s.Drains) : s.wordFailed.Drains := by
  refine State.wordFailed_keeps (P := State.Drains) (fun _ _ touches law => law.of_touches touches (by decide))
    (fun _ n _ b r _ law => law.completeAccess n b r) (fun s c k _ law => ?_) law
  have ended : (s.setMemPort s.memPort.endGrant).Drains := law.of_touches (s.setMemPort_touches _) (by decide)
  have touches := (s.setMemPort s.memPort.endGrant).chunkFailed_touches
  have event := (s.setMemPort s.memPort.endGrant).chunkFailed_entryEvent
  exact ended.of_entryEvent event (State.Flying.of_touches touches (by decide))

theorem State.Drains.wordDone {s : State} (law : s.Drains) : s.wordDone.Drains := by
  refine State.wordDone_keeps (P := State.Drains) (fun _ _ touches law => law.of_touches touches (by decide))
    (fun _ n _ b r _ law => law.completeAccess n b r)
    (fun _ _ _ _ _ law => law.of_touches (State.setMemPort_touches _ _) (by decide)) (fun s c k _ law => ?_) law
  have ended : (s.setMemPort s.memPort.endGrant).Drains := law.of_touches (s.setMemPort_touches _) (by decide)
  have touches := (s.setMemPort s.memPort.endGrant).chunkDone_touches
  have event : State.EntryEvent _ _ := .turns (s.setMemPort s.memPort.endGrant).chunkDone_turns
  exact ended.of_entryEvent event (State.Flying.of_touches touches (by decide))

theorem State.Drains.clock {s : State} (law : s.Drains) : s.clock.Drains :=
  State.clock_keeps (P := State.Drains) (fun _ _ touches law => law.of_touches touches (by decide))
    (fun _ _ _ _ _ law => law.of_touches (State.setMemPort_touches _ _) (by decide)) (fun _ law => law.wordFailed) law

/-- The decode of an access sets the marker of a port whose marker is clear, if it sets one. -/
theorem State.decodeAccess_flying {s : State} {n : AgentId} (clear : (s.port n).marker = none) (c : MemCycle) :
    s.Flying (s.decodeAccess n c).inFlight := by
  have answered : ∀ b, s.Flying (s.answerMem n b).inFlight := fun b =>
    .of_touches (s.answerMem_touches n b) (by decide)
  unfold State.decodeAccess
  split
  next => exact answered _
  next a _ =>
    split
    · exact answered _
    · split
      · have handed := fun b r => (s.answerMem_touches n b).trans (State.handReport_touches (s.answerMem n b) n r)
        exact .of_touches (handed _ _) (by decide)
      · intro m r flight
        have other : n ≠ m := fun eq => by
          rw [← eq, State.inFlight, clear] at flight
          cases flight
        have markers := s.reloadCovering_touches n a.info.addr .markers (by decide) m
        have same : ((s.forward n a).port m).marker = (s.port m).marker := by
          rw [State.forward, State.setMemPort_port, State.setPort_port, if_neg other, markers]
        rw [State.inFlight_of_marker same]
        exact flight

theorem execAccessDecode_flying {n : AgentId} {c : MemSelect} {s t : State} (h : execAccessDecode n c s = .next t) :
    s.Flying t.inFlight := by
  refine execAccessDecode_keeps (P := fun u => s.Flying u.inFlight) (fun u v touches flying => ?_)
    (fun u m c clear flying => ?_) h s.flying_self
  · exact fun k r flight => State.Flying.of_touches touches (by decide) k r (flying k r flight)
  · exact fun k r flight => State.decodeAccess_flying clear c k r (flying k r flight)

theorem State.reset_drainLaw : State.reset.DrainLaw := by
  refine (State.reset.drainLaw_iff).mpr fun i => ?_
  by_cases zero : i = 0
  · subst zero
    exact EntryBody.active_drains _ 0 _ none
  · rw [State.reset_entry_of_ne zero]
    exact EntryBody.free_drains _

theorem State.Drains.step {s t : State} (law : s.Drains) (h : step s = .next t) : t.Drains := by
  have completion := State.drains_looksAt.completion (by decide)
  refine step_keeps_law State.drains_looksAt (fun s n c r _ => completion s n c r)
    (fun c n ps s _ _ _ law => completion _ n _ _
      (law.of_entryEvent (.leasing (c.run_entryStep s n ps)) (.of_markers (c.run_sameMarkers n ps s)))) ?claim
    (fun _ law => law.clock) law h
  case claim =>
    intro i s t touched h law
    obtain ⟨claim, known⟩ := claim_of_meets touched
    have event : i ≠ .resetAssert → s.Flying t.inFlight → t.Drains := fun running flying =>
      law.of_entryEvent (exec_entryEvent h claim known running) flying
    have kept : i ≠ .resetAssert → .markers ∉ claimFootprint i → t.Drains := fun running apart =>
      event running (.of_touches (exec_touches h claim known) apart)
    cases i with
    | accessDecode n c => exact event nofun (execAccessDecode_flying h)
    | mack => cases h; exact law.wordDone
    | merr m => cases h; exact law.wordFailed
    | acknowledgeTimeout => cases h; exact law.wordFailed
    | agrstAssert n => exact event nofun (.of_markers (execAgrstAssert_sameMarkers h))
    | resetRelease order => exact event nofun (.of_markers (execResetRelease_sameMarkers h))
    | resetAssert => cases h; exact State.drains_looksAt.of_reset (by decide) (State.reset.drainLaw_iff.mp State.reset_drainLaw) _
    | tick c => exact kept nofun (by cases c <;> decide)
    | _ => exact kept nofun (by simp only [claimFootprint]; decide)

/-- Settles O58: a marker and the forwarded access it records are set and cleared together, an entry drains only from a
retirement with an access in flight to the completion of that access, and every operation keeps the Memory Port's
limits. -/
theorem markersDrainsAndMemoryPortAreKept : Obligations.MarkersDrainsAndMemoryPortAreKept := by
  intro s t h
  have drains : s.DrainLaw → t.DrainLaw := by
    rw [s.drainLaw_iff, t.drainLaw_iff]
    exact fun law => law.step h
  exact ⟨fun law => law.step h, drains, fun law => law.step h⟩

end Sys2Proof.Machine
end

section
/-! SUPPORT. R5, R108 to R117: the scrub queue, and the Scrub Engine in step with the Memory Port. -/

namespace Sys2Proof.Machine

/-! ## The laws, field by field -/

/-- What R109, R5 and R108 ask of one entry: a FAULTED one has disposition SCRUB, and a RETIRING KEEP one drains. -/
def EntryBody.placed : EntryBody → Bool
  | .faulted l => l.disposition == .scrub
  | .retiring _ l d => d || l.disposition == .scrub
  | .free | .active .. => true

/-- R5, R109 (`State.ScrubQueueLaw`). -/
structure State.QueueSound (s : State) : Prop where
  nodup : s.scrub.queue.Nodup
  mem : ∀ i, i ∈ s.scrub.queue ↔ (s.entry i).body.awaitsScrub = true
  placed : ∀ i, (s.entry i).body.placed = true

/-- R110, R113, R115, R116 (`State.EngineLaw`). -/
structure State.EngineSound (s : State) : Prop where
  counter : s.scrub.sinceGo ≤ 4
  hold : s.scrub.holdPending = true → s.scrub.mode = .running ∧ s.scrub.sinceGo < 4
  idle : s.scrub.mode = .idle → s.scrub.queue = []
  resting : s.scrub.mode = .idle ∨ s.scrub.mode = .suspended → s.memPort.outstanding = []
  busy : s.scrub.mode = .running ∨ s.scrub.mode = .suspending →
    ∃ c, s.headChunk = some c ∧ s.memPort.outstanding = [c]
  left : ∀ i q l, s.scrub.queue = i :: q → (s.entry i).body.lease? = some l → s.scrub.progress < l.range.chunks

theorem Disposition.eq_scrub_iff (d : Disposition) : (d == .scrub) = true ↔ d = .scrub := by cases d <;> decide

theorem State.queueSound_iff (s : State) : s.QueueSound ↔ s.ScrubQueueLaw := by
  have placed : ∀ b : EntryBody, b.placed = true ↔ match b with
      | .faulted l => l.disposition = .scrub
      | .retiring _ l d => l.disposition = .keep → d = true
      | _ => True := by
    intro b
    cases b with
    | free => exact ⟨fun _ => trivial, fun _ => rfl⟩
    | active => exact ⟨fun _ => trivial, fun _ => rfl⟩
    | faulted l => exact l.disposition.eq_scrub_iff
    | retiring o l d =>
      simp only [EntryBody.placed]
      cases l.disposition <;> cases d <;> decide
  constructor
  · rintro ⟨nodup, mem, rest⟩
    exact ⟨nodup, mem, fun i => (placed _).mp (rest i)⟩
  · rintro ⟨nodup, mem, rest⟩
    exact ⟨nodup, mem, fun i => (placed _).mpr (rest i)⟩

theorem State.engineSound_iff (s : State) : s.EngineSound ↔ s.EngineLaw := by
  have head : (∀ i q l, s.scrub.queue = i :: q → (s.entry i).body.lease? = some l → s.scrub.progress < l.range.chunks) ↔
      match s.scrub.queue with
      | [] => True
      | i :: _ => match (s.entry i).body.lease? with
        | some l => s.scrub.progress < l.range.chunks
        | none => True := by
    cases s.scrub.queue with
    | nil => exact ⟨fun _ => trivial, fun _ _ _ _ e => by cases e⟩
    | cons i q =>
      dsimp only
      cases lease : (s.entry i).body.lease? with
      | none => exact ⟨fun _ => trivial, fun _ _ _ _ e f => by cases e; rw [lease] at f; cases f⟩
      | some l =>
        refine ⟨fun h => h i q l rfl lease, fun h j _ k e f => ?_⟩
        cases e
        rw [lease] at f
        exact Option.some.inj f ▸ h
  have mode : ((s.scrub.mode = .idle → s.scrub.queue = []) ∧
      (s.scrub.mode = .idle ∨ s.scrub.mode = .suspended → s.memPort.outstanding = []) ∧
      (s.scrub.mode = .running ∨ s.scrub.mode = .suspending →
        ∃ c, s.headChunk = some c ∧ s.memPort.outstanding = [c])) ↔
      match s.scrub.mode with
      | .idle => s.scrub.queue = [] ∧ s.memPort.outstanding = []
      | .suspended => s.memPort.outstanding = []
      | .running | .suspending => ∃ c, s.headChunk = some c ∧ s.memPort.outstanding = [c] := by
    cases s.scrub.mode <;> simp
  constructor
  · rintro ⟨counter, hold, idle, resting, busy, left⟩
    exact ⟨counter, hold, mode.mp ⟨idle, resting, busy⟩, head.mp left⟩
  · rintro ⟨counter, hold, modes, left⟩
    obtain ⟨idle, resting, busy⟩ := mode.mpr modes
    exact ⟨counter, hold, idle, resting, busy, head.mpr left⟩

/-- The two laws of the Scrub Engine, which every operation keeps together. -/
structure State.ScrubSound (s : State) : Prop where
  queue : s.QueueSound
  engine : s.EngineSound

/-- Every entry of the queue has a lease. -/
theorem State.QueueSound.lease {s : State} (sound : s.QueueSound) {i : EntryId} (h : i ∈ s.scrub.queue) :
    ∃ l, (s.entry i).body.lease? = some l ∧ l.disposition = .scrub := by
  have awaits := (sound.mem i).mp h
  cases body : (s.entry i).body with
  | retiring o l d =>
    rw [body] at awaits
    exact ⟨l, rfl, (l.disposition.eq_scrub_iff).mp (Bool.and_eq_true_iff.mp awaits).1⟩
  | _ => rw [body] at awaits; cases awaits

theorem Range.chunks_pos (r : Range) : 0 < r.chunks := Nat.two_pow_pos _

/-! ## Moves that the Scrub Engine does not see -/

/-- The entry does not join or leave the queue, and what it is in the queue with stays. -/
def EntryBody.Unseen (a b : EntryBody) : Prop :=
  b = a ∨ a.awaitsScrub = false ∧ b.awaitsScrub = false ∧ b.placed = true

theorem EntryBody.Unseen.awaits {a b : EntryBody} (h : a.Unseen b) : b.awaitsScrub = a.awaitsScrub := by
  rcases h with same | ⟨before, after, -⟩
  · rw [same]
  · rw [before, after]

theorem EntryBody.Unseen.placed {a b : EntryBody} (h : a.Unseen b) (old : a.placed = true) : b.placed = true := by
  rcases h with same | ⟨-, -, new⟩
  · rw [same]; exact old
  · exact new

theorem EntryBody.Unseen.of_awaiting {a b : EntryBody} (h : a.Unseen b) (awaits : a.awaitsScrub = true) : b = a := by
  rcases h with same | ⟨before, -⟩
  · exact same
  · exact (Bool.false_ne_true (before.symm.trans awaits)).elim

theorem State.ScrubSound.unseen {s t : State} (sound : s.ScrubSound) (scrub : t.scrub = s.scrub)
    (out : t.memPort.outstanding = s.memPort.outstanding)
    (entry : ∀ i, (s.entry i).body.Unseen (t.entry i).body) : t.ScrubSound := by
  obtain ⟨⟨nodup, mem, placed⟩, ⟨counter, hold, idle, resting, busy, left⟩⟩ := sound
  have head : ∀ i ∈ s.scrub.queue, (t.entry i).body = (s.entry i).body := fun i h =>
    (entry i).of_awaiting ((mem i).mp h)
  have headChunk : t.headChunk = s.headChunk := by
    unfold State.headChunk
    rw [scrub]
    cases queue : s.scrub.queue with
    | nil => rfl
    | cons i q => dsimp only; rw [head i (by rw [queue]; exact List.mem_cons_self)]
  refine ⟨⟨?_, fun i => ?_, fun i => (entry i).placed (placed i)⟩, ?_⟩
  · rw [scrub]; exact nodup
  · rw [scrub, (entry i).awaits]; exact mem i
  · constructor
    · rw [scrub]; exact counter
    · rw [scrub]; exact hold
    · rw [scrub]; exact idle
    · rw [scrub, out]; exact resting
    · rw [scrub, out, headChunk]; exact busy
    · intro i q l queue lease
      rw [scrub] at queue ⊢
      rw [head i (by rw [queue]; exact List.mem_cons_self)] at lease
      exact left i q l queue lease

theorem State.ScrubSound.of_touches {s t : State} {L : List Aspect} (sound : s.ScrubSound) (h : s.Touches L t)
    (apart : ∀ a ∈ [Aspect.entries, .scrub, .memPort], a ∉ L) : t.ScrubSound := by
  have memPort : t.memPort = s.memPort := h .memPort (apart .memPort (by decide))
  exact sound.unseen (h .scrub (apart .scrub (by decide))) (by rw [memPort]) fun i =>
    .inl (by rw [h.entry (apart .entries (by decide)) i])

/-- A change at the Memory Port alone that leaves the chunk outstanding there. -/
theorem State.ScrubSound.setMemPort {s : State} (sound : s.ScrubSound) {m : MemoryPort}
    (out : m.outstanding = s.memPort.outstanding) : (s.setMemPort m).ScrubSound :=
  sound.unseen rfl out fun _ => .inl rfl

theorem State.ScrubSound.setEntry {s : State} (sound : s.ScrubSound) {i : EntryId} {e : Entry}
    (h : (s.entry i).body.Unseen e.body) : (s.setEntry i e).ScrubSound := by
  refine sound.unseen rfl rfl fun j => ?_
  rw [State.setEntry_entry]
  split
  next eq => exact eq ▸ h
  next => exact .inl rfl

theorem State.ScrubSound.freeEntry {s : State} (sound : s.ScrubSound) {i : EntryId}
    (h : (s.entry i).body.awaitsScrub = false) : (s.freeEntry i).ScrubSound :=
  (sound.setEntry (i := i) (e := { gen := (s.entry i).gen, body := .free }) (.inr ⟨h, rfl, rfl⟩)).unseen rfl rfl
    fun _ => .inl rfl

/-! ## The chunk requests -/

theorem MemoryPort.outstanding_of_grant {m : MemoryPort} {c : Chunk} {k : Nat} (h : m.grant = some (.chunk c k)) :
    m.outstanding = m.endGrant.outstanding ++ [c] := by
  simp only [MemoryPort.outstanding, MemoryPort.endGrant, h, List.append_nil]

theorem MemoryPort.outstanding_requestChunk {m : MemoryPort} (none_ : m.outstanding = []) (c : Chunk) :
    (m.requestChunk c).outstanding = [c] := by
  have granted := (List.append_eq_nil_iff.mp none_).2
  have same : (m.requestChunk c).grant = m.grant := rfl
  rw [MemoryPort.outstanding, same, granted]
  rfl

/-- With no chunk outstanding, the request of the head's next chunk is the one that is then outstanding (R110). -/
theorem State.requestChunk_outstanding {s : State} {i : EntryId} {q : List EntryId} {l : Lease}
    (queue : s.scrub.queue = i :: q) (lease : (s.entry i).body.lease? = some l) (none_ : s.memPort.outstanding = []) :
    ∃ c, s.requestChunk.headChunk = some c ∧ s.requestChunk.memPort.outstanding = [c] := by
  refine ⟨{ base := l.range.base, number := s.scrub.progress }, ?_, ?_⟩
  · simp only [State.headChunk, State.requestChunk_scrub, queue, State.requestChunk_entry, lease, Option.map_some]
  · rw [State.requestChunk_of_head s queue lease, State.setMemPort_memPort]
    exact MemoryPort.outstanding_requestChunk none_ _

/-! ## A join of the queue -/

theorem State.QueueSound.join {s t : State} (sound : s.QueueSound) {i : EntryId} {o : Option AgentId} {l : Lease}
    (before : (s.entry i).body.awaitsScrub = false) (scrub : l.disposition = .scrub)
    (queue : t.scrub.queue = s.scrub.queue ++ [i])
    (entry : ∀ j, (t.entry j).body = if i = j then .retiring o l false else (s.entry j).body) : t.QueueSound where
  nodup := by
    have fresh : i ∉ s.scrub.queue := fun h => Bool.false_ne_true (before.symm.trans ((sound.mem i).mp h))
    rw [queue]
    exact nodup_concat sound.nodup fresh
  mem j := by
    rw [queue, entry, List.mem_append, List.mem_singleton]
    split
    next eq => simp [EntryBody.awaitsScrub, scrub, eq]
    next ne => rw [sound.mem j]; exact ⟨fun h => h.resolve_right fun eq => ne eq.symm, .inl⟩
  placed j := by
    rw [entry]
    split
    next => simp [EntryBody.placed, scrub]
    next => exact sound.placed j

/-- An entry with disposition SCRUB joins the tail of the queue; it starts an IDLE engine (R109, R110, R114). -/
theorem State.ScrubSound.join {s : State} (sound : s.ScrubSound) {i : EntryId} {g : BitVec 8} {o : Option AgentId}
    {l : Lease} (before : (s.entry i).body.awaitsScrub = false) (scrub : l.disposition = .scrub) :
    ((s.setEntry i { gen := g, body := .retiring o l false }).joinQueue i).ScrubSound := by
  obtain ⟨queueSound, ⟨counter, hold, idle, resting, busy, left⟩⟩ := sound
  have entry : ∀ j, ((s.setEntry i { gen := g, body := .retiring o l false }).entry j).body =
      if i = j then .retiring o l false else (s.entry j).body := s.setEntry_setsBody i _
  have old : ∀ j ∈ s.scrub.queue, i ≠ j := fun j h eq =>
    Bool.false_ne_true (before.symm.trans (eq ▸ (queueSound.mem j).mp h))
  generalize marked : s.setEntry i { gen := g, body := .retiring o l false } = u at entry
  have uscrub : u.scrub = s.scrub := by rw [← marked, State.setEntry_scrub]
  have uport : u.memPort = s.memPort := by rw [← marked, State.setEntry_memPort]
  refine ⟨queueSound.join before scrub (by rw [State.joinQueue_queue, uscrub]) (fun j => by
    rw [State.joinQueue_entry]; exact entry j), ?_⟩
  have leaseOf : (u.entry i).body.lease? = some l := by rw [entry, if_pos rfl]; rfl
  have others : ∀ j ∈ s.scrub.queue, (u.entry j).body = (s.entry j).body := fun j h => by
    rw [entry, if_neg (old j h)]
  by_cases start : s.scrub.mode = .idle
  · have empty := idle start
    have noHold : s.scrub.holdPending = false := Bool.eq_false_iff.mpr fun h => by
      rw [start] at hold
      cases (hold h).1
    rw [State.joinQueue_of_idle u i (by rw [uscrub]; exact start)]
    generalize moved : u.setScrub _ = v
    have vscrub : v.scrub = { s.scrub with mode := .running, queue := [i], progress := 0 } := by
      rw [← moved, State.setScrub_scrub, uscrub, empty]
      rfl
    have vlease : (v.entry i).body.lease? = some l := by rw [← moved, State.setScrub_entry]; exact leaseOf
    have vport : v.memPort.outstanding = [] := by
      rw [← moved, State.setScrub_memPort, uport]
      exact resting (.inl start)
    constructor
    · rw [State.requestChunk_scrub, vscrub]; exact counter
    · rw [State.requestChunk_scrub, vscrub]; intro h; rw [noHold] at h; cases h
    · rw [State.requestChunk_scrub, vscrub]; intro h; cases h
    · rw [State.requestChunk_scrub, vscrub]; rintro (h | h) <;> cases h
    · exact fun _ => State.requestChunk_outstanding (by rw [vscrub]) vlease vport
    · intro j q k queue lease
      rw [State.requestChunk_scrub, vscrub]
      exact k.range.chunks_pos
  · rw [State.joinQueue_of_busy u i (by rw [uscrub]; exact start), uscrub]
    have head : ∀ j q, s.scrub.queue = j :: q →
        (u.setScrub { s.scrub with
          queue := s.scrub.queue ++ [i]
          progress := if s.scrub.queue.isEmpty then 0 else s.scrub.progress }).headChunk = s.headChunk := by
      intro j q queue
      simp only [State.headChunk, State.setScrub_scrub, State.setScrub_entry, queue, List.cons_append,
        List.isEmpty_cons, Bool.false_eq_true, if_false,
        others j (by rw [queue]; exact List.mem_cons_self)]
    constructor
    · exact counter
    · exact hold
    · exact fun h => absurd h start
    · intro h
      rw [State.setScrub_memPort, uport]
      exact resting h
    · intro h
      obtain ⟨c, chunk, out⟩ := busy h
      cases queue : s.scrub.queue with
      | nil => simp only [State.headChunk, queue] at chunk; cases chunk
      | cons j q =>
        rw [← queue, head j q queue, State.setScrub_memPort, uport]
        exact ⟨c, chunk, out⟩
    · intro j q k queue lease
      rw [State.setScrub_scrub] at queue ⊢
      rw [State.setScrub_entry] at lease
      dsimp only at queue ⊢
      cases was : s.scrub.queue with
      | nil => exact k.range.chunks_pos
      | cons j' q' =>
        rw [was] at queue
        cases queue
        rw [others j (by rw [was]; exact List.mem_cons_self)] at lease
        exact left j q' k was lease

/-! ## The end of a chunk -/

@[simp] theorem State.moveEngine_queue (s : State) : s.moveEngine.scrub.queue = s.scrub.queue := by
  unfold State.moveEngine
  dsimp only
  split
  · split
    · rfl
    · split
      · rfl
      · rw [State.requestChunk_scrub]
  all_goals rfl

theorem State.QueueSound.moveEngine {s : State} (sound : s.QueueSound) : s.moveEngine.QueueSound where
  nodup := by rw [State.moveEngine_queue]; exact sound.nodup
  mem i := by rw [State.moveEngine_queue, State.moveEngine_entry]; exact sound.mem i
  placed i := by rw [State.moveEngine_entry]; exact sound.placed i

/-- The engine moves, with no chunk outstanding, at the end of a chunk (R113, R116). -/
theorem State.EngineSound.moveEngine {s : State} (counter : s.scrub.sinceGo ≤ 4)
    (hold : s.scrub.holdPending = true → s.scrub.mode = .running)
    (busy : s.scrub.mode = .running ∨ s.scrub.mode = .suspending) (none_ : s.memPort.outstanding = [])
    (head : ∀ i q, s.scrub.queue = i :: q →
      ∃ l, (s.entry i).body.lease? = some l ∧ s.scrub.progress < l.range.chunks) : s.moveEngine.EngineSound := by
  have left : ∀ i q l, s.scrub.queue = i :: q → (s.entry i).body.lease? = some l →
      s.scrub.progress < l.range.chunks := by
    intro i q l queue lease
    obtain ⟨k, lease', below⟩ := head i q queue
    rw [lease'] at lease
    exact Option.some.inj lease ▸ below
  have suspended : ¬(ScrubMode.suspended = .running ∨ ScrubMode.suspended = .suspending) := by decide
  have idle : ¬(ScrubMode.idle = .running ∨ ScrubMode.idle = .suspending) := by decide
  unfold State.moveEngine
  dsimp only
  split
  next running =>
    split
    next held =>
      exact ⟨counter, fun h => (by cases h), fun h => (by cases h), fun _ => none_, fun h => absurd h suspended, left⟩
    next going =>
      split
      next empty =>
        have noHold : ¬s.scrub.holdPending = true := fun h => going (by rw [h, empty]; rfl)
        exact ⟨counter, fun h => absurd h noHold, fun _ => List.isEmpty_iff.mp empty, fun _ => none_,
          fun h => absurd h idle, left⟩
      next more =>
        cases queue : s.scrub.queue with
        | nil => rw [queue] at more; exact absurd rfl more
        | cons i q =>
          obtain ⟨l, lease, -⟩ := head i q queue
          constructor
          · rw [State.requestChunk_scrub]; exact counter
          · rw [State.requestChunk_scrub]
            intro pending
            refine ⟨running, Nat.lt_of_le_of_ne counter fun four => going ?_⟩
            rw [pending, four]
            simp
          · rw [State.requestChunk_scrub, running]; intro h; cases h
          · rw [State.requestChunk_scrub, running]; rintro (h | h) <;> cases h
          · exact fun _ => State.requestChunk_outstanding queue lease none_
          · intro j p k
            rw [State.requestChunk_scrub, State.requestChunk_entry]
            exact left j p k
  next suspending =>
    have noHold : ¬s.scrub.holdPending = true := fun h => by
      rw [suspending] at hold
      cases hold h
    exact ⟨counter, fun h => absurd h noHold, fun h => (by cases h), fun _ => none_, fun h => absurd h suspended, left⟩
  next mode => exact absurd (mode ▸ busy) idle
  next mode => exact absurd (mode ▸ busy) suspended

/-- While a chunk is granted, it is the one outstanding, and the engine runs or is about to suspend (R110). -/
theorem State.EngineSound.granted {s : State} (sound : s.EngineSound) {c : Chunk} {k : Nat}
    (grant : s.memPort.grant = some (.chunk c k)) :
    (s.scrub.mode = .running ∨ s.scrub.mode = .suspending) ∧ s.memPort.endGrant.outstanding = [] ∧
      s.scrub.queue ≠ [] := by
  have out := MemoryPort.outstanding_of_grant grant
  have some_ : s.memPort.outstanding ≠ [] := by rw [out]; simp
  have mode : s.scrub.mode = .running ∨ s.scrub.mode = .suspending := by
    cases mode : s.scrub.mode with
    | running => exact .inl rfl
    | suspending => exact .inr rfl
    | idle => exact absurd (sound.resting (.inl mode)) some_
    | suspended => exact absurd (sound.resting (.inr mode)) some_
  obtain ⟨d, head, one⟩ := sound.busy mode
  refine ⟨mode, ?_, fun empty => ?_⟩
  · rw [one] at out
    exact List.append_eq_singleton_iff.mp out.symm |>.elim (·.1) fun h => absurd h.2 (List.cons_ne_nil c [])
  · simp only [State.headChunk, empty] at head
    cases head

/-- The head leaves the queue as FREE or FAULTED (R111, R119). -/
theorem State.QueueSound.leave {s t : State} (sound : s.QueueSound) {i : EntryId} {rest : List EntryId} {b : EntryBody}
    (queue : s.scrub.queue = i :: rest) (new : t.scrub.queue = rest) (done : b.awaitsScrub = false)
    (placed : b.placed = true) (entry : ∀ j, (t.entry j).body = if i = j then b else (s.entry j).body) :
    t.QueueSound := by
  have nodup := sound.nodup
  rw [queue, List.nodup_cons] at nodup
  refine ⟨new ▸ nodup.2, fun j => ?_, fun j => ?_⟩
  · rw [new, entry]
    split
    next eq => rw [done, ← eq]; simp [nodup.1]
    next ne =>
      rw [← sound.mem j, queue, List.mem_cons]
      exact ⟨.inr, fun h => h.resolve_left fun eq => ne eq.symm⟩
  · rw [entry]
    split
    · exact placed
    · exact sound.placed j

/-- The state in which the engine moves: a head, if there is one, has chunks left. -/
theorem State.QueueSound.head_left {t : State} (sound : t.QueueSound) (progress : t.scrub.progress = 0) (i : EntryId)
    (q : List EntryId) (queue : t.scrub.queue = i :: q) :
    ∃ l, (t.entry i).body.lease? = some l ∧ t.scrub.progress < l.range.chunks := by
  obtain ⟨l, lease, -⟩ := sound.lease (i := i) (by rw [queue]; exact List.mem_cons_self)
  exact ⟨l, lease, by rw [progress]; exact l.range.chunks_pos⟩

theorem State.ScrubSound.chunkDone {s : State} (sound : s.ScrubSound) {c : Chunk} {k : Nat}
    (grant : s.memPort.grant = some (.chunk c k)) : (s.setMemPort s.memPort.endGrant).chunkDone.ScrubSound := by
  obtain ⟨queueSound, engine⟩ := sound
  obtain ⟨busy, none_, -⟩ := engine.granted grant
  have counter : min 4 (s.scrub.sinceGo + 1) ≤ 4 := Nat.min_le_left _ _
  have hold : s.scrub.holdPending = true → s.scrub.mode = .running := fun h => (engine.hold h).1
  unfold State.chunkDone
  dsimp only [State.setMemPort_scrub, State.setMemPort_entry]
  split
  next empty => exact absurd empty (engine.granted grant).2.2
  next i rest queue =>
    obtain ⟨l, lease, -⟩ := queueSound.lease (i := i) (by rw [queue]; exact List.mem_cons_self)
    rw [lease]
    dsimp only
    have below := engine.left i rest l queue lease
    split
    next last =>
      have sound : State.QueueSound (((s.setMemPort s.memPort.endGrant).freeEntry i).setScrub
          { s.scrub with queue := rest, progress := 0, sinceGo := min 4 (s.scrub.sinceGo + 1) }) :=
        queueSound.leave queue rfl rfl rfl (s.setEntry_setsBody i { gen := (s.entry i).gen, body := .free })
      exact ⟨sound.moveEngine, .moveEngine counter hold busy none_ (sound.head_left rfl)⟩
    next more =>
      refine ⟨State.QueueSound.moveEngine ⟨queueSound.nodup, queueSound.mem, queueSound.placed⟩,
        .moveEngine counter hold busy none_ fun j q queue' => ?_⟩
      have same : i = j := (List.cons.inj (queue.symm.trans queue')).1
      exact ⟨l, same ▸ lease, Nat.lt_of_le_of_ne below more⟩

theorem State.ScrubSound.chunkFailed {s : State} (sound : s.ScrubSound) {c : Chunk} {k : Nat}
    (grant : s.memPort.grant = some (.chunk c k)) : (s.setMemPort s.memPort.endGrant).chunkFailed.ScrubSound := by
  obtain ⟨queueSound, engine⟩ := sound
  obtain ⟨busy, none_, -⟩ := engine.granted grant
  have hold : s.scrub.holdPending = true → s.scrub.mode = .running := fun h => (engine.hold h).1
  unfold State.chunkFailed
  dsimp only [State.setMemPort_scrub, State.setMemPort_entry]
  split
  next empty => exact absurd empty (engine.granted grant).2.2
  next i rest queue =>
    obtain ⟨l, lease, scrub⟩ := queueSound.lease (i := i) (by rw [queue]; exact List.mem_cons_self)
    rw [lease]
    dsimp only
    have sound : State.QueueSound ((((s.setMemPort s.memPort.endGrant).setEntry i
        { gen := (s.entry i).gen, body := .faulted l }).setScrub
          { s.scrub with queue := rest, progress := 0 }).raise .scrubFail 0) :=
      queueSound.leave (b := .faulted l) queue rfl rfl ((l.disposition.eq_scrub_iff).mpr scrub)
        (s.setEntry_setsBody i { gen := (s.entry i).gen, body := .faulted l })
    exact ⟨sound.moveEngine, .moveEngine engine.counter hold busy none_ (sound.head_left rfl)⟩

end Sys2Proof.Machine
end

section
/-! SUPPORT. R5, R108 to R117: every operation of a step keeps the two laws of the Scrub Engine together. -/

namespace Sys2Proof.Machine

theorem State.foldl_scrubSound {β : Type} {g : State → β → State} (h : ∀ (s : State) x, s.ScrubSound → (g s x).ScrubSound)
    (l : List β) {s : State} (sound : s.ScrubSound) : (l.foldl g s).ScrubSound :=
  foldl_invariant (P := State.ScrubSound) h l s sound

theorem State.forEntries_scrubSound {g : State → EntryId → State}
    (h : ∀ (s : State) i, s.ScrubSound → (g s i).ScrubSound) {s : State} (sound : s.ScrubSound) :
    (s.forEntries g).ScrubSound := State.foldl_scrubSound h allEntries sound

namespace State.ScrubSound

section
variable {s : State} (sound : s.ScrubSound)
include sound

/-! ## The operations on entries -/

theorem raise (c : Cause) (n : AgentId) : (s.raise c n).ScrubSound :=
  sound.of_touches (s.raise_touches c n) (by decide)

theorem setReexamine (b : Bool) : (s.setReexamine b).ScrubSound := sound.unseen rfl rfl fun _ => .inl rfl

theorem setActive {i : EntryId} {v : ActiveView} {o : AgentId} {l : Lease} {x : Option AgentId}
    (body : (s.entry i).body = .active o l x) : (s.setActive i v).ScrubSound :=
  sound.setEntry (.inr ⟨by rw [body]; rfl, rfl, rfl⟩)

/-- The entry of i, not yet in the queue, drained or with nothing to drain, goes on by its disposition (R108). -/
theorem drained {i : EntryId} {g : BitVec 8} {o : Option AgentId} {l : Lease}
    (before : (s.entry i).body.awaitsScrub = false) :
    ((s.setEntry i { gen := g, body := .retiring o l false }).drained i l).ScrubSound := by
  cases disposition : l.disposition with
  | scrub =>
    rw [State.drained_scrub _ i disposition]
    exact sound.join before disposition
  | keep =>
    rw [State.drained_keep _ i disposition]
    refine sound.unseen rfl rfl fun j => ?_
    rw [State.freeEntry_entry, State.setEntry_entry, State.setEntry_entry]
    by_cases same : i = j
    · subst same
      rw [if_pos rfl]
      exact .inr ⟨before, rfl, rfl⟩
    · rw [if_neg same, if_neg same]
      exact .inl rfl

theorem retire (i : EntryId) : (s.retire i).ScrubSound := by
  unfold State.retire
  split
  next o l x body =>
    have before : (s.entry i).body.awaitsScrub = false := by rw [body]; rfl
    dsimp only
    split
    next flight =>
      rw [flight]
      exact sound.setEntry (.inr ⟨before, by simp [EntryBody.awaitsScrub], rfl⟩)
    next still =>
      rw [Bool.eq_false_iff.mpr still]
      exact sound.drained before
  all_goals exact sound

theorem drainEntry (n : AgentId) (i : EntryId) : (State.drainEntry n s i).ScrubSound := by
  unfold State.drainEntry
  split
  next o l body =>
    split
    · exact sound.drained (by rw [body]; simp [EntryBody.awaitsScrub])
    · exact sound
  all_goals exact sound

theorem allocate {i : EntryId} (free : (s.entry i).body = .free) (n : AgentId) (q : Request) :
    (s.allocate i n q).ScrubSound := sound.setEntry (.inr ⟨by rw [free]; rfl, rfl, rfl⟩)

theorem tickEntry (i : EntryId) : (s.tickEntry i).ScrubSound := by
  unfold State.tickEntry
  split
  next o l x body =>
    have counted : ∀ v, (s.setActive i v).ScrubSound := fun v => sound.setActive body
    split
    next => exact sound
    next m c life =>
      dsimp only
      split
      · exact ((counted _).retire i).raise .lapse o
      · split
        · exact (counted _).raise .warn o
        · exact counted _
  all_goals exact sound

theorem leaseTick : s.leaseTick.ScrubSound := by
  unfold State.leaseTick
  split
  · exact sound
  · exact State.forEntries_scrubSound (fun _ i sound => sound.tickEntry i) (sound.unseen rfl rfl fun _ => .inl rfl)

theorem openEntry (p : Phase) (i : EntryId) : (State.openEntry p s i).ScrubSound := by
  refine sound.setEntry ?_
  cases body : (s.entry i).body with
  | active o l t =>
    refine .inr ⟨rfl, ?_⟩
    simp only [EntryBody.makeEffective]
    split
    · split <;> exact ⟨rfl, rfl⟩
    · exact ⟨rfl, rfl⟩
  | _ => exact .inl rfl

theorem setInForce (p : Option Phase) : (s.setInForce p).ScrubSound := sound.unseen rfl rfl fun _ => .inl rfl

theorem takeSequencerClaim (c : SequencerClaim) : (s.takeSequencerClaim c).ScrubSound := by
  cases c with
  | opening p =>
    have opened : (s.forEntries (State.openEntry p)).ScrubSound :=
      State.forEntries_scrubSound (fun _ i sound => sound.openEntry p i) sound
    rw [State.takeSequencerClaim_opening]
    exact opened.setInForce (some p)
  | none => exact sound.setInForce none

theorem setSequencerClaims (l : List SequencerClaim) : (s.setSequencerClaims l).ScrubSound :=
  sound.unseen rfl rfl fun _ => .inl rfl

theorem takeAllSequencerClaims (c : SequencerClaim) : (s.takeAllSequencerClaims c).ScrubSound := by
  have emptied : (s.setSequencerClaims []).ScrubSound := sound.setSequencerClaims []
  rw [State.takeAllSequencerClaims]
  exact State.foldl_scrubSound (fun _ c sound => sound.takeSequencerClaim c) _ emptied

theorem teardownEntry (n : AgentId) (i : EntryId) : (State.teardownEntry n s i).ScrubSound := by
  unfold State.teardownEntry
  split
  · exact sound.retire i
  · exact sound

theorem teardownOffer (n : AgentId) (i : EntryId) : (State.teardownOffer n s i).ScrubSound := by
  unfold State.teardownOffer
  split
  next o l t body =>
    split
    · exact (sound.setActive body).raise .offerOut o
    · exact sound
  all_goals exact sound

theorem teardown (n : AgentId) : (s.teardown n).ScrubSound := by
  have entries := State.forEntries_scrubSound (fun _ i sound => sound.teardownEntry n i) sound
  have offers := State.forEntries_scrubSound (fun _ i sound => sound.teardownOffer n i) entries
  have wait : ∀ (u : State) w, u.ScrubSound → (State.teardownWait n u w).ScrubSound := by
    intro u w sound
    unfold State.teardownWait
    split
    · exact sound.of_touches (u.freeWait_touches w) (by decide)
    · exact sound
  have window : ∀ u : State, u.ScrubSound → (u.teardownWindow n).ScrubSound := fun u sound =>
    sound.unseen rfl rfl fun _ => .inl rfl
  have waits := State.foldl_scrubSound wait allWaits offers
  have words := waits.of_touches (State.emptyStatus_touches _ n) (by decide)
  exact (window _ words).setReexamine true

theorem reloadCovering (n : AgentId) (a : Addr) : (s.reloadCovering n a).ScrubSound := by
  unfold State.reloadCovering
  split
  next i l covering =>
    obtain ⟨t, body⟩ := State.covering_active covering
    rw [body]
    exact sound.setActive body
  next => exact sound

/-! ## The words of the memory port -/

theorem decodeAccess (n : AgentId) (c : MemCycle) : (s.decodeAccess n c).ScrubSound := by
  have answered : ∀ b, (s.answerMem n b).ScrubSound := fun b => sound.of_touches (s.answerMem_touches n b) (by decide)
  unfold State.decodeAccess
  split
  next => exact answered _
  next a _ =>
    split
    · exact answered _
    · split
      · exact (answered _).of_touches (State.handReport_touches _ n _) (by decide)
      · exact (sound.reloadCovering n a.info.addr).unseen rfl rfl fun _ => .inl rfl

theorem completeAccess (n : AgentId) (b : BusAnswer) (r : List FaultReport) {a : Access}
    (grant : s.memPort.grant = some (.agent n a)) : (s.completeAccess n b r).ScrubSound := by
  obtain ⟨p, -, e⟩ := s.completeAccess_eq n b r
  have out : s.memPort.endGrant.outstanding = s.memPort.outstanding := by
    simp only [MemoryPort.outstanding, MemoryPort.endGrant, grant]
  rw [e]
  exact State.forEntries_scrubSound (fun _ i sound => sound.drainEntry n i)
    (sound.unseen rfl out fun _ => .inl rfl)

theorem sram {t : State} (touches : s.Touches [.sram] t) : t.ScrubSound := sound.of_touches touches (by decide)

theorem wordDone : s.wordDone.ScrubSound :=
  State.wordDone_keeps (P := State.ScrubSound) (fun _ _ touches sound => sound.sram touches)
    (fun _ n _ b r grant sound => sound.completeAccess n b r grant)
    (fun _ c k grant _ sound => sound.setMemPort (by
      simp only [MemoryPort.outstanding, MemoryPort.nextWord, grant]))
    (fun _ _ _ grant sound => sound.chunkDone grant) sound

theorem wordFailed : s.wordFailed.ScrubSound :=
  State.wordFailed_keeps (P := State.ScrubSound) (fun _ _ touches sound => sound.sram touches)
    (fun _ n _ b r grant sound => sound.completeAccess n b r grant)
    (fun _ _ _ grant sound => sound.chunkFailed grant) sound

theorem clock : s.clock.ScrubSound :=
  State.clock_keeps (P := State.ScrubSound) (fun _ _ touches sound => sound.of_touches touches (by decide))
    (fun _ _ _ _ _ sound => sound.setMemPort rfl) (fun _ sound => sound.wordFailed) sound

end

end State.ScrubSound

/-- A grant decision leaves the chunk outstanding (R181). -/
theorem MemoryPort.decide_outstanding (m : MemoryPort) : m.decide.outstanding = m.outstanding := by
  have agent : ∀ n a w, m.grant = none → (m.grantAgent n a w).outstanding = m.outstanding := by
    intro n a w grant
    simp only [MemoryPort.outstanding, MemoryPort.grantAgent, grant]
  have chunk : ∀ c, m.grant = none → m.chunk = some c → (m.grantChunk c).outstanding = m.outstanding := by
    intro c grant waits
    simp [MemoryPort.outstanding, MemoryPort.grantChunk, grant, waits]
  have all : m.grant = none → m.decideAll.outstanding = m.outstanding := by
    intro grant
    unfold MemoryPort.decideAll
    split
    next waits _ => exact chunk _ grant waits
    next waits _ =>
      split
      · exact chunk _ grant waits
      · exact agent _ _ _ grant
    next => exact agent _ _ _ grant
    next => rfl
  unfold MemoryPort.decide
  split
  next => rfl
  next grant _ =>
    split
    · exact agent _ _ _ grant
    · exact all grant
  next grant _ =>
    split
    next waits => exact chunk _ grant waits
    next => exact all grant
  next grant _ => exact all grant
  next grant _ => exact all grant

/-! ## The commands of the windows -/

/-- A refusal leaves the state; the rest of the command runs where the check passes. -/
theorem State.check_scrubSound {s : State} (sound : s.ScrubSound) {check : Prop} [Decidable check] {st : StatusCode}
    {rest : State × Reply} (h : ¬check → rest.1.ScrubSound) : (if check then refuse s st else rest).1.ScrubSound :=
  State.check_of (P := State.ScrubSound) sound h

namespace State.ScrubSound

section
variable {s : State} (sound : s.ScrubSound) (n : AgentId) (ps : Vector Word 8)
include sound

theorem acquire : (State.acquire n ps s).1.ScrubSound := by
  have queued : ∀ q st, (s.queueOr n q ps st).1.ScrubSound := fun q st =>
    sound.of_touches (s.queueOr_touches n ps q st) (by decide)
  unfold State.acquire
  split
  next => exact sound
  next q decoded =>
    refine State.check_scrubSound sound fun _ => State.check_scrubSound sound fun _ =>
      State.check_scrubSound sound fun _ => State.check_scrubSound sound fun _ => State.check_scrubSound sound fun _ => ?_
    split
    · exact queued _ _
    · split
      · exact queued _ _
      next i free => exact sound.allocate (State.firstFree_free free) n q

theorem renew : (State.renew n ps s).1.ScrubSound := by
  simp only [State.renew]
  split
  next => exact sound
  next v e =>
    exact State.check_scrubSound sound fun _ => State.check_scrubSound sound fun _ =>
      sound.setActive (State.resolve_ok e)

theorem narrow : (State.narrow n ps s).1.ScrubSound := by
  simp only [State.narrow]
  split
  next => exact sound
  next v e =>
    exact State.check_scrubSound sound fun _ => State.check_scrubSound sound fun _ =>
      (sound.setActive (State.resolve_ok e)).setReexamine true

theorem release : (State.release n ps s).1.ScrubSound := by
  simp only [State.release]
  split
  next => exact sound
  next => exact State.check_scrubSound sound fun _ => sound.retire _

theorem revoke : (State.revoke n ps s).1.ScrubSound := by
  simp only [State.revoke]
  split
  next => exact sound
  next v _ => exact (sound.retire _).raise .revoked v.owner

theorem offer : (State.offer n ps s).1.ScrubSound := by
  simp only [State.offer]
  split
  next => exact sound
  next v e =>
    refine State.check_scrubSound sound fun _ => ?_
    split
    next => exact sound
    next t _ =>
      exact State.check_scrubSound sound fun _ => State.check_scrubSound sound fun _ =>
        (sound.setActive (State.resolve_ok e)).raise .offerIn t

theorem accept : (State.accept n ps s).1.ScrubSound := by
  simp only [State.accept]
  split
  next => exact sound
  next v e =>
    exact State.check_scrubSound sound fun _ => State.check_scrubSound sound fun _ =>
      State.check_scrubSound sound fun _ => State.check_scrubSound sound fun _ =>
        ((sound.setActive (State.resolve_ok e)).raise .offerOut v.owner).setReexamine true

theorem decline : (State.decline n ps s).1.ScrubSound := by
  simp only [State.decline]
  split
  next => exact sound
  next v e =>
    exact State.check_scrubSound sound fun _ => (sound.setActive (State.resolve_ok e)).raise .offerOut v.owner

/-- A FAULTED entry has disposition SCRUB, and rejoins the queue (R5, R121). -/
theorem retry : (State.retry n ps s).1.ScrubSound := by
  simp only [State.retry]
  split
  next => exact sound
  next l e =>
    have body := State.resolveFaulted_ok e
    have placed := sound.queue.placed (Handle.ofWord ps[0]).entry
    rw [body] at placed
    exact sound.join (by rw [body]; rfl) ((l.disposition.eq_scrub_iff).mp placed)

theorem forget : (State.forget n ps s).1.ScrubSound := by
  simp only [State.forget]
  split
  next => exact sound
  next l e => exact sound.freeEntry (by rw [State.resolveFaulted_ok e]; rfl)

theorem writePhases : (State.writePhases n ps s).1.ScrubSound := by
  have set : ∀ q, (s.setPhases q).ScrubSound := fun q => sound.of_touches (s.setPhases_touches q) (by decide)
  simp only [State.writePhases]
  split
  · split
    · exact (set _).takeAllSequencerClaims _
    · exact set _
  · exact set _

theorem scrubHold : (State.scrubHold n ps s).1.ScrubSound := by
  obtain ⟨⟨nodup, mem, placed⟩, ⟨counter, hold, idle, resting, busy, left⟩⟩ := sound
  have suspended : ¬(ScrubMode.suspended = .running ∨ ScrubMode.suspended = .suspending) := by decide
  have suspending : ¬(ScrubMode.suspending = .idle ∨ ScrubMode.suspending = .suspended) := by decide
  simp only [State.scrubHold]
  split
  next mode =>
    refine ⟨⟨nodup, mem, placed⟩, ⟨counter, fun h => ?_, fun h => (by cases h), fun _ => resting (.inl mode),
      fun h => absurd h suspended, left⟩⟩
    have running := (hold h).1
    rw [mode] at running
    cases running
  next mode =>
    split
    · exact ⟨⟨nodup, mem, placed⟩, ⟨counter, hold, idle, resting, busy, left⟩⟩
    next noHold =>
      split
      next below =>
        exact ⟨⟨nodup, mem, placed⟩, ⟨counter, fun _ => ⟨mode, below⟩, idle, resting, busy, left⟩⟩
      next =>
        exact ⟨⟨nodup, mem, placed⟩, ⟨counter, fun h => absurd h noHold, fun h => (by cases h),
          fun h => absurd h suspending, fun _ => busy (.inl mode), left⟩⟩
  all_goals exact ⟨⟨nodup, mem, placed⟩, ⟨counter, hold, idle, resting, busy, left⟩⟩

theorem scrubGo : (State.scrubGo n ps s).1.ScrubSound := by
  have same := sound
  obtain ⟨⟨nodup, mem, placed⟩, ⟨counter, hold, idle, resting, busy, left⟩⟩ := sound
  have idling : ¬(ScrubMode.idle = .running ∨ ScrubMode.idle = .suspending) := by decide
  have running : ¬(ScrubMode.running = .idle ∨ ScrubMode.running = .suspended) := by decide
  have noHold : s.scrub.mode ≠ .running → ¬s.scrub.holdPending = true := fun other h => other (hold h).1
  simp only [State.scrubGo]
  split
  next mode =>
    have noHold := noHold (by rw [mode]; decide)
    split
    next empty =>
      exact ⟨⟨nodup, mem, placed⟩, ⟨Nat.zero_le _, fun h => absurd h noHold, fun _ => List.isEmpty_iff.mp empty,
        fun _ => resting (.inr mode), fun h => absurd h idling, left⟩⟩
    next more =>
      cases queue : s.scrub.queue with
      | nil => rw [queue] at more; exact absurd rfl more
      | cons i q =>
        obtain ⟨l, lease, -⟩ := same.queue.lease (i := i) (by rw [queue]; exact List.mem_cons_self)
        rw [← queue]
        generalize started : s.setScrub _ = u
        have uscrub : u.scrub = { s.scrub with mode := .running, sinceGo := 0 } := by
          rw [← started, State.setScrub_scrub]
        have entry : ∀ j, u.entry j = s.entry j := fun j => by rw [← started, State.setScrub_entry]
        have uport : u.memPort = s.memPort := by rw [← started, State.setScrub_memPort]
        refine ⟨⟨?_, fun j => ?_, fun j => ?_⟩, ?_, ?_, ?_, ?_, fun _ => ?_, fun j p k => ?_⟩
        · rw [granted, State.requestChunk_scrub, uscrub]; exact nodup
        · rw [granted, State.requestChunk_scrub, uscrub, State.requestChunk_entry, entry]; exact mem j
        · rw [granted, State.requestChunk_entry, entry]; exact placed j
        · rw [granted, State.requestChunk_scrub, uscrub]; exact Nat.zero_le _
        · rw [granted, State.requestChunk_scrub, uscrub]; exact fun h => absurd h noHold
        · rw [granted, State.requestChunk_scrub, uscrub]; intro h; cases h
        · rw [granted, State.requestChunk_scrub, uscrub]; exact fun h => absurd h running
        · exact State.requestChunk_outstanding (by rw [uscrub]; exact queue) (by rw [entry]; exact lease)
            (by rw [uport]; exact resting (.inr mode))
        · rw [granted, State.requestChunk_scrub, uscrub, State.requestChunk_entry, entry]; exact left j p k
  next mode =>
    split
    · exact ⟨⟨nodup, mem, placed⟩, ⟨counter, fun h => (by cases h), idle, resting, busy, left⟩⟩
    · exact same
  next mode =>
    have noHold := noHold (by rw [mode]; decide)
    exact ⟨⟨nodup, mem, placed⟩, ⟨counter, fun h => absurd h noHold, fun h => (by cases h),
      fun h => absurd h running, fun _ => busy (.inr mode), left⟩⟩
  next => exact same

theorem run (c : Command) : (c.run n ps s).1.ScrubSound := by
  have kept : ∀ c : Command, (∀ a ∈ [Aspect.entries, .scrub, .memPort], a ∉ c.footprint) → (c.run n ps s).1.ScrubSound :=
    fun c apart => sound.of_touches (c.run_touches n ps s) apart
  cases c with
  | acquire => exact sound.acquire n ps
  | renew => exact sound.renew n ps
  | narrow => exact sound.narrow n ps
  | release => exact sound.release n ps
  | revoke => exact sound.revoke n ps
  | offer => exact sound.offer n ps
  | accept => exact sound.accept n ps
  | decline => exact sound.decline n ps
  | retry => exact sound.retry n ps
  | forget => exact sound.forget n ps
  | setPhases => exact sound.writePhases n ps
  | scrubHold => exact sound.scrubHold n ps
  | scrubGo => exact sound.scrubGo n ps
  | _ => exact kept _ (by decide)

end

theorem examine {s : State} (sound : s.ScrubSound) (w : WaitId) : (s.examine w).ScrubSound := by
  have resolved : ∀ (t : State) o, t.ScrubSound → (t.resolveWait w o).ScrubSound := fun t o sound =>
    sound.of_touches (t.resolveWait_touches w o) (by decide)
  unfold State.examine
  split
  next n q d _ =>
    split
    · exact resolved _ _ sound
    · split
      · exact resolved _ _ sound
      · split
        · split
          next i free => exact resolved _ _ (sound.allocate (State.firstFree_free free) n q)
          next => exact sound
        · exact sound
  all_goals exact sound

end State.ScrubSound

/-! ## The step -/

theorem State.scrubSound_looksAt : LooksAt State.ScrubSound [.entries, .scrub, .memPort] := fun s _ same sound =>
  have memPort : _ = s.memPort := same .memPort (by decide)
  have entries : _ = s.leases.entries := same .entries (by decide)
  sound.unseen (same .scrub (by decide)) (by rw [memPort]) fun i => .inl (by rw [State.entry, State.entry, entries])

theorem State.reset_scrubSound : State.reset.ScrubSound := by
  have body : ∀ i, (State.reset.entry i).body.awaitsScrub = false ∧ (State.reset.entry i).body.placed = true := by
    decide +kernel
  refine ⟨⟨List.nodup_nil, fun i => ?_, fun i => (body i).2⟩, by decide, by decide, fun _ => rfl, fun _ => rfl,
    fun h => absurd h (by decide), fun _ _ _ h => by cases h⟩
  rw [(body i).1]
  exact ⟨fun h => absurd h List.not_mem_nil, fun h => absurd h (by decide)⟩

theorem State.ScrubSound.step {s t : State} (sound : s.ScrubSound) (h : step s = .next t) : t.ScrubSound := by
  have completion := State.scrubSound_looksAt.completion (by decide)
  refine step_keeps_law State.scrubSound_looksAt (fun s n c r _ => completion s n c r)
    (fun c n ps s _ _ _ sound => completion _ n _ _ (sound.run n ps c)) ?claim (fun _ sound => sound.clock) sound h
  case claim =>
    intro i s t touched h sound
    cases i with
    | accessDecode n c =>
      exact execAccessDecode_keeps (P := State.ScrubSound) (fun _ _ touches sound => sound.of_touches touches (by decide))
        (fun _ n c _ sound => sound.decodeAccess n c) h sound
    | memoryGrant => cases h; exact sound.setMemPort s.memPort.decide_outstanding
    | mack => cases h; exact sound.wordDone
    | merr m => cases h; exact sound.wordFailed
    | acknowledgeTimeout => cases h; exact sound.wordFailed
    | passStep =>
      simp only [exec, execPassStep] at h
      split at h
      next todo _ =>
        split at h <;> cases h
        · exact sound.of_touches (s.setJob_touches none) (by decide)
        next w rest _ =>
          have walked := (sound.examine w).of_touches (State.setJob_touches _ (some (.pass rest))) (by decide)
          exact walked.of_touches (State.endPassIfDone_touches _) (by decide)
      all_goals cases h; exact sound
    | teardown =>
      rcases execTeardown_cases h with ⟨n, -, e⟩ | e
      · rw [e]
        exact (sound.teardown n).of_touches (State.setJob_touches _ none) (by decide)
      · rwa [e]
    | tick c =>
      cases c with
      | leaseTable => cases h; exact sound.leaseTick
      | _ => exact (Bool.false_ne_true touched).elim
    | expiry =>
      rcases execExpiry_cases h with e | e
      · rw [e]; exact sound.leaseTick
      · rwa [e]
    | opening =>
      simp only [exec, execOpening] at h
      split at h <;> cases h
      · exact (sound.setSequencerClaims _).takeSequencerClaim _
      all_goals exact sound
    | noneClaim =>
      simp only [exec, execNoneClaim] at h
      split at h <;> cases h
      · exact (sound.setSequencerClaims _).takeSequencerClaim _
      all_goals exact sound
    | resetAssert => cases h; exact State.scrubSound_looksAt.of_reset (by decide) State.reset_scrubSound _
    | _ => exact (Bool.false_ne_true touched).elim

/-- Settles O56: every step keeps the scrub queue exact and the Scrub Engine in agreement with it and with the Memory
Port; the two laws are kept together. -/
theorem scrubQueueAndEngineAreKept : Obligations.ScrubQueueAndEngineAreKept := by
  intro s t queue engine h
  have sound : s.ScrubSound := ⟨(s.queueSound_iff).mpr queue, (s.engineSound_iff).mpr engine⟩
  obtain ⟨queue', engine'⟩ := sound.step h
  exact ⟨(t.queueSound_iff).mp queue', (t.engineSound_iff).mp engine'⟩

end Sys2Proof.Machine
end

section
/-! SUPPORT. The step, device reset, and the laws there (R19, R44, R48, R55, R133, R147, R159, R185). -/

namespace Sys2Proof.Machine

/-- Settles O1: the front command runs on the state with the queue's rest, by the definition of a step. -/
theorem stepRunsFrontCommand : Obligations.StepRunsFrontCommand := fun _ _ _ => rfl

/-! ## One clock -/

theorem State.clockDivider_of_stopped {s : State} (h : s.timebase.running = false) : s.clockDivider = s := by
  rw [State.clockDivider, if_neg (by rw [h]; decide)]

theorem State.clockDivider_of_below {s : State} (h : s.timebase.running = true)
    (below : s.timebase.count + 1 < s.timebase.period) :
    s.clockDivider = s.setTimebase { s.timebase with count := s.timebase.count + 1 } := by
  rw [State.clockDivider, if_pos h, if_pos below]

theorem State.clockDivider_of_last {s : State} (h : s.timebase.running = true)
    (last : s.timebase.period ≤ s.timebase.count + 1) : s.clockDivider = s.produceTick := by
  rw [State.clockDivider, if_pos h, if_neg (Nat.not_lt.mpr last)]

theorem State.clockWord_of_noGrant {s : State} (h : s.memPort.grant = none) : s.clockWord = s := by
  simp only [State.clockWord, h]

theorem State.clockWord_of_noStrobe {s : State} (h : s.memPort.grant ≠ none) (strobe : s.memPort.strobe = none) :
    s.clockWord = s.setMemPort { s.memPort with strobe := some 0 } := by
  obtain ⟨g, grant⟩ := Option.ne_none_iff_exists'.mp h
  simp only [State.clockWord, grant, strobe]

theorem State.clockWord_of_strobe {s : State} (h : s.memPort.grant ≠ none) {k : Nat} (strobe : s.memPort.strobe = some k) :
    s.clockWord =
      if k + 1 < 256 then s.setMemPort { s.memPort with strobe := some (k + 1) } else s.wordFailed := by
  obtain ⟨g, grant⟩ := Option.ne_none_iff_exists'.mp h
  simp only [State.clockWord, grant, strobe]

/-- Settles O2: a step on an empty queue is one clock, first at the divider and then at the word in progress. -/
theorem emptyQueueIsOneClock : Obligations.EmptyQueueIsOneClock := by
  intro s empty
  have idle := step_idle s empty
  have memPort : s.clockDivider.memPort = s.memPort := s.clockDivider_touches .memPort (by decide)
  have held : s.resetAsserted = true → s.clock = s := fun reset => by rw [State.clock, if_pos reset]
  have runs : s.resetAsserted = false → s.clock = s.clockDivider.clockWord := fun reset => by
    rw [State.clock, if_neg (by rw [reset]; decide)]
  refine ⟨fun reset => by rw [idle, held reset], fun reset => ?_⟩
  rw [idle, runs reset]
  refine ⟨s.clockDivider, State.clockDivider_of_stopped, State.clockDivider_of_below, State.clockDivider_of_last,
    fun grant => ?_, fun grant strobe => ?_, fun k grant strobe => ?_⟩
  all_goals rw [← memPort] at grant
  · rw [State.clockWord_of_noGrant grant]
  · rw [State.clockWord_of_noStrobe grant (by rw [memPort, strobe]), memPort]
  · rw [State.clockWord_of_strobe grant (by rw [memPort, strobe]), memPort]
    exact ⟨fun below => by rw [if_pos below], fun last => by rw [if_neg (Nat.not_lt.mpr last)]; rfl⟩

/-- Settles O3: the values after device reset, one field at a time. -/
theorem resetHasTheSpecsValues : Obligations.ResetHasTheSpecsValues := by
  refine ⟨rfl, fun _ => State.reset_entry_of_ne, rfl, by decide, rfl, rfl, rfl, by decide, by decide, rfl, rfl, rfl, rfl, rfl,
    by decide, by decide, rfl, rfl, rfl, rfl, by decide⟩

theorem State.reset_managerLaw : State.reset.ManagerLaw :=
  ⟨List.nodup_nil, fun _ h => absurd h List.not_mem_nil, nofun, nofun, by decide, by decide, by decide⟩

theorem State.reset_timebaseLaw : State.reset.TimebaseLaw := ⟨by decide, by decide, by decide⟩

/-- Settles O4: every law holds at device reset. -/
theorem lawsHoldAtReset : Obligations.LawsHoldAtReset := by
  obtain ⟨fields, countdowns, owners⟩ := (State.fit_iff _).mp State.reset_fit
  have scrub := State.reset_scrubSound
  exact ⟨fields, countdowns, State.reset_compatibilityLaw, State.reset_selfOverlapLaw, State.reset_quotaLaw,
    State.reset_guardLaw, owners, (State.queueSound_iff _).mp scrub.queue, (State.engineSound_iff _).mp scrub.engine,
    State.reset_waitLaw, State.reset_managerLaw, State.reset_markerLaw, State.reset_drainLaw,
    State.reset_memoryPortLaw, State.reset_wf, State.reset_sequencerLaw, State.reset_timebaseLaw,
    State.reset_causeLaw, State.reset_profileLaw⟩

end Sys2Proof.Machine
end

section
/-! SUPPORT. The completions of agent 0's policy commands and of SCRUB-HOLD and SCRUB-GO, where R53 admits them (R116,
R117, R135 to R137, R161 to R167, R173). -/

namespace Sys2Proof.Machine

/-! ## The completion of a command that R53 admits -/

section
variable {s t : State} {n : AgentId} {c : Command} {ps : Vector Word 8}

/-- The completion of a command in execution that makes its own checks (R65) or that R53 admits. -/
theorem completion_of_runs (h : s.Runs n c ps) :
    s.completion c = ((c.run n ps s).1.setJob none).respond n c.code (c.run n ps s).2 := by
  unfold State.completion
  split
  · exact s.completeWith_of_executes c.run h.1
  · exact s.complete_of_runs c.run h

theorem exec_of_run {r : Reply} (h : s.Runs n c ps) (e : c.run n ps s = (t, r)) (port : t.port n = s.port n) :
    exec c.instr s = .next (t.answered n c.code r) := by
  rw [exec_completion, completion_of_runs h, e]
  exact congrArg Host.Outcome.next (t.respond_answered c.code r (port ▸ h.1.2))

theorem exec_of_refuse {st : StatusCode} (h : s.Runs n c ps) (e : c.run n ps s = refuse s st) :
    exec c.instr s = .next (s.answered n c.code { status := st }) := exec_of_run h e rfl

theorem exec_of_granted (h : s.Runs n c ps) (e : c.run n ps s = granted t) (port : t.port n = s.port n) :
    exec c.instr s = .next (t.answered n c.code { status := .ok }) := exec_of_run h e port

/-- Agent 0 alone issues a supervisor command. -/
theorem State.Runs.supervisor (h : s.Runs n c ps) (super : c.supervisor = true) : n = 0 := h.2.1 super

end

theorem agentField_eq {w : Word} {lo : Nat} : (∃ n : AgentId, n.val = field w lo 3 ∧ agentField w lo = some n) ∨
    6 ≤ field w lo 3 ∧ agentField w lo = none := by
  by_cases h : field w lo 3 < 6
  · exact .inl ⟨⟨field w lo 3, h⟩, rfl, agentField_of_lt rfl⟩
  · exact .inr ⟨Nat.not_lt.mp h, agentField_of_ge (Nat.not_lt.mp h)⟩

/-- Settles O44. -/
theorem timebaseCommands : Obligations.TimebaseCommands := by
  refine fun s n ps => ⟨fun run => exec_of_granted (c := .setTimebase) run rfl rfl,
    fun run => exec_of_granted (c := .timebaseStop) run rfl rfl, fun run => ⟨fun running => ?_, fun stopped => ?_⟩⟩
  · have e : Command.timebaseStart.run n ps s = granted s := if_pos running
    exact exec_of_granted run e rfl
  · have e : Command.timebaseStart.run n ps s = granted (s.setTimebase { s.timebase with running := true, count := 0 }) :=
      if_neg (by rw [stopped]; decide)
    exact exec_of_granted run e rfl

/-! ## SCRUB-HOLD and SCRUB-GO -/

theorem scrubHold_case {s : State} {n : AgentId} {ps : Vector Word 8} (run : s.Runs n .scrubHold ps) {t : State} {b : Bool}
    (e : State.scrubHold n ps s = (t, holdReply b)) (port : t.ports = s.ports) :
    exec .scrubHold s = .next (t.answered n 0x29 { status := .ok, r0 := if b then 1 else 0 }) := by
  have reply : holdReply b = { status := .ok, r0 := if b then 1 else 0 } := by cases b <;> rfl
  rw [← reply]
  exact exec_of_run (c := .scrubHold) run e (by rw [State.port, State.port, port])

/-- Settles O46: one equation for each state of the engine. -/
theorem scrubHoldAndScrubGo : Obligations.ScrubHoldAndScrubGo := by
  intro s n ps
  refine ⟨fun run => ⟨fun mode => ?_, fun mode hold => ?_, fun mode hold below => ?_, fun mode hold least => ?_,
    fun mode => ?_⟩, fun run => ⟨fun mode empty => ?_, fun i rest l mode queue lease => ?_, fun mode hold => ?_,
    fun mode => ?_, fun mode => ?_⟩⟩
  · exact scrubHold_case (b := false) run (by simp only [State.scrubHold, mode]) rfl
  · exact scrubHold_case (b := true) run (by simp only [State.scrubHold, mode, hold, if_true]) rfl
  · exact scrubHold_case (b := true) run
      (by simp only [State.scrubHold, mode, hold, Bool.false_eq_true, if_false, if_pos below]) rfl
  · exact scrubHold_case (b := false) run
      (by simp only [State.scrubHold, mode, hold, Bool.false_eq_true, if_false, if_neg (Nat.not_lt.mpr least)]) rfl
  · rcases mode with mode | mode
    all_goals exact scrubHold_case (b := false) run (by simp only [State.scrubHold, mode]) rfl
  · exact exec_of_granted run (by simp only [Command.run, State.scrubGo, mode, empty, List.isEmpty_nil, if_true]) rfl
  · have e : Command.scrubGo.run n ps s =
        granted (s.setScrub { s.scrub with mode := .running, sinceGo := 0 }).requestChunk := by
      simp only [Command.run, State.scrubGo, mode, queue, List.isEmpty_cons, Bool.false_eq_true, if_false]
    have request := (s.setScrub { s.scrub with mode := .running, sinceGo := 0 }).requestChunk_of_head queue lease
    rw [request] at e
    exact exec_of_granted run e rfl
  · exact exec_of_granted run (by simp only [Command.run, State.scrubGo, mode, hold, if_true]) rfl
  · exact exec_of_granted run (by simp only [Command.run, State.scrubGo, mode]) rfl
  · rcases mode with mode | ⟨mode, hold⟩
    · exact exec_of_refuse run (by simp only [Command.run, State.scrubGo, mode])
    · exact exec_of_refuse run (by simp only [Command.run, State.scrubGo, mode, hold, Bool.false_eq_true, if_false])

/-! ## DETACH -/

theorem busErrorFor_eq (k : Kind) : busErrorFor k = .busError (if k = .dataWrite then none else some 0) := by
  cases k <;> rfl

/-- Settles O41: the target is another agent than 0, and its detach event leaves agent 0's port. -/
theorem detachIsADetachEvent : Obligations.DetachIsADetachEvent := by
  intro s n ps run
  have supervisor : n = 0 := run.supervisor rfl
  refine ⟨fun bad => ?_, fun m named other => ?_⟩
  · refine exec_of_refuse (c := .detach) run ?_
    rcases agentField_eq (w := ps[0]) (lo := 0) with ⟨m, value, e⟩ | ⟨-, e⟩
    · have zero : m = 0 := Fin.ext <| by
        rcases bad with h | h
        · exact value.trans h
        · exact absurd m.isLt (by omega)
      simp only [Command.run, State.detach, e, if_pos zero]
    · simp only [Command.run, State.detach, e]
  · have e : Command.detach.run n ps s = granted (s.detachEvent m) := by
      simp only [Command.run, State.detach, agentField_of_lt named, if_neg other]
    refine ⟨fun detaching => ?_, fun attached => ?_⟩
    · rw [s.detachEvent_of_detaching detaching] at e
      exact exec_of_granted run e rfl
    · simp only [s.detachEvent_of_attached attached, busErrorFor_eq] at e
      refine exec_of_granted run e ?_
      rw [State.setJobList_port, State.setPort_port, if_neg (supervisor ▸ other)]

/-! ## SET-PROFILE, LOCK-PROFILE, SET-GUARD -/

/-- SET-PROFILE of an agent, by its checks (R161, R162). -/
theorem State.writeProfile_of_agent (s : State) (n : AgentId) {ps : Vector Word 8} {m : AgentId} {enabled : Bool}
    {leases pages : Nat} (named : m.val = field ps[0] 0 3) (he : enabled = bit ps[1] 0) (hl : leases = field ps[1] 8 7)
    (hp : pages = field ps[1] 16 13) :
    State.writeProfile n ps s =
      if (s.profile m).locked then refuse s .locked
      else if (m = 0 ∧ enabled = false) ∨ 64 < leases ∨ 4096 < pages then refuse s .badArg
      else if leases < s.leasesHeld m ∨ pages < s.pagesHeld m then refuse s .quota
      else granted ((s.setProfile m
        { s.profile m with enabled := enabled, leaseQuota := leases, pageQuota := pages }).setReexamine true) := by
  simp only [State.writeProfile, agentField_of_lt named, ← he, ← hl, ← hp, Bool.not_eq_true']

/-- Settles O42. -/
theorem setProfileAndLockProfile : Obligations.SetProfileAndLockProfile := by
  intro s n ps
  refine ⟨fun run enabled leases pages he hl hp => ?_, fun run => ⟨fun bad => ?_, fun m named => ?_⟩⟩
  · refine ⟨fun bad => exec_of_refuse (c := .setProfile) run ?_, fun m named => ?_⟩
    · simp only [Command.run, State.writeProfile, agentField_of_ge bad]
    · have e : Command.setProfile.run n ps s = _ := s.writeProfile_of_agent n named he hl hp
      refine ⟨fun locked => exec_of_refuse run (e.trans (if_pos locked)), fun unlocked => ?_⟩
      rw [if_neg (by rw [unlocked]; decide)] at e
      refine ⟨fun bad => exec_of_refuse run (e.trans (if_pos bad)), fun on fewLeases fewPages => ?_⟩
      have good : ¬(m = 0 ∧ enabled = false ∨ 64 < leases ∨ 4096 < pages) := by
        rintro (⟨zero, off⟩ | many | many)
        · rw [on zero] at off
          cases off
        · exact absurd fewLeases (Nat.not_le.mpr many)
        · exact absurd fewPages (Nat.not_le.mpr many)
      rw [if_neg good] at e
      refine ⟨fun held => exec_of_refuse run (e.trans (if_pos held)), fun leasesFit pagesFit => ?_⟩
      have fits := not_or.mpr ⟨Nat.not_lt.mpr leasesFit, Nat.not_lt.mpr pagesFit⟩
      exact exec_of_granted run (e.trans (if_neg fits)) rfl
  · exact exec_of_refuse (c := .lockProfile) run (by simp only [Command.run, State.lockProfile, agentField_of_ge bad])
  · exact exec_of_granted (c := .lockProfile) run
      (by simp only [Command.run, State.lockProfile, agentField_of_lt named]) rfl

theorem State.othersHold_iff (s : State) (r : Range) :
    s.othersHold r = true ↔ ∃ i o l, (s.entry i).body.owner? = some o ∧ o ≠ 0 ∧ (s.entry i).body.lease? = some l ∧
      l.range.overlaps r = true := by
  simp only [State.othersHold, List.any_eq_true, mem_allEntries, true_and]
  refine exists_congr fun i => ?_
  cases owner : (s.entry i).body.owner? with
  | none => simp
  | some o =>
    cases lease : (s.entry i).body.lease? with
    | none => simp
    | some l => simp

/-- Settles O43. -/
theorem setGuardWritesASpan : Obligations.SetGuardWritesASpan := by
  intro s n ps g r run named base order
  have guard : (ps[0].extractLsb' 0 2).toFin = g := Fin.ext named.symm
  have range : rangeField ps[1] ps[2] = r := by
    obtain ⟨b, k⟩ := r
    exact congr (congrArg Range.mk (BitVec.eq_of_toNat_eq base.symm)) order.symm
  refine ⟨fun locked => exec_of_refuse (c := .setGuard) run ?_, fun unlocked => ⟨fun bad => ?_, fun low high aligned => ?_⟩⟩
  · simp only [Command.run, State.writeGuard, guard, locked, if_true]
  · have invalid : r.valid = false := by
      refine Bool.eq_false_iff.mpr fun valid => ?_
      obtain ⟨low, high, aligned⟩ := (r.valid_iff).mp valid
      omega
    refine exec_of_refuse (c := .setGuard) run ?_
    simp only [Command.run, State.writeGuard, guard, range, unlocked, invalid, Bool.false_eq_true, if_false,
      Bool.not_false, if_true]
  · have valid : r.valid = true := (r.valid_iff).mpr ⟨low, high, aligned⟩
    refine ⟨fun enabled held => exec_of_refuse (c := .setGuard) run ?_, fun clear =>
      exec_of_granted (c := .setGuard) run ?_ rfl⟩
    · simp only [Command.run, State.writeGuard, guard, range, unlocked, valid, Bool.false_eq_true, if_false,
        Bool.not_true, enabled, (s.othersHold_iff r).mpr held, Bool.and_self, if_true]
    · have passes : ¬(bit ps[3] 0 && s.othersHold r) = true := by
        intro fails
        obtain ⟨enabled, held⟩ := Bool.and_eq_true_iff.mp fails
        obtain ⟨i, o, l, owner, other, lease, overlaps⟩ := (s.othersHold_iff r).mp held
        rw [clear enabled i o l owner other lease] at overlaps
        cases overlaps
      simp only [Command.run, State.writeGuard, guard, range, unlocked, valid, Bool.false_eq_true, if_false,
        Bool.not_true, if_neg passes]

end Sys2Proof.Machine
end

section
/-! SUPPORT. The Timebase's ticks, the sequencer's claims at the Lease Table, and SET-PHASES (R134, R148 to R150, R153,
R154). -/

namespace Sys2Proof.Machine

/-! ## A claim of the sequencer at one entry (R150) -/

/-- What a claim of the sequencer makes of one entry. -/
def Entry.take (e : Entry) : SequencerClaim → Entry
  | .opening p => { e with body := e.body.makeEffective p }
  | .none => e

theorem State.openEntry_entry (s : State) (p : Phase) (i j : EntryId) :
    (State.openEntry p s i).entry j = if i = j then (s.entry i).take (.opening p) else s.entry j := by
  rw [State.openEntry, State.setEntry_entry]
  rfl

theorem State.setInForce_entry (s : State) (p : Option Phase) (i : EntryId) : (s.setInForce p).entry i = s.entry i := rfl

theorem State.takeSequencerClaim_entry (s : State) (c : SequencerClaim) (i : EntryId) :
    (s.takeSequencerClaim c).entry i = (s.entry i).take c := by
  cases c with
  | opening p =>
    have others : ∀ (u : State) i j, j ≠ i → (State.openEntry p u i).entry j = u.entry j := fun u i j other => by
      rw [u.openEntry_entry, if_neg other.symm]
    obtain ⟨u, -, same, opened⟩ := State.forEntries_entry (fun _ => ()) (fun _ _ => rfl) others s i
    rw [State.takeSequencerClaim_opening, State.setInForce_entry, opened, u.openEntry_entry, if_pos rfl, same]
  | none => rfl

/-- An entry slotted to p is effective after an opening of p. -/
theorem Entry.take_opening {g : BitVec 8} {o : AgentId} {l : Lease} {y : Option AgentId} {x : Slot} {p : Phase}
    (slot : l.slot = some x) (h : x.phase = p) :
    Entry.take { gen := g, body := .active o l y } (.opening p) =
      { gen := g, body := .active o { l with slot := some { phase := p, effective := true } } y } := by
  subst h
  simp only [Entry.take, EntryBody.makeEffective, slot, if_true]

/-- An entry that is not slotted to p stands. -/
theorem Entry.take_of_other {e : Entry} {p : Phase}
    (h : ∀ o l y x, e.body = .active o l y → l.slot = some x → x.phase ≠ p) : e.take (.opening p) = e := by
  obtain ⟨g, b⟩ := e
  cases b with
  | active o l y =>
    simp only [Entry.take, EntryBody.makeEffective]
    split
    next x slot => rw [if_neg (h o l y x rfl slot)]
    next => rfl
  | _ => rfl

theorem State.takeSequencerClaim_leases (s : State) (c : SequencerClaim) :
    (s.takeSequencerClaim c).leases =
      { entries := (s.takeSequencerClaim c).leases.entries, inForce := c.phase, ticksDue := s.leases.ticksDue,
        sequencerClaims := s.leases.sequencerClaims } := by
  have due : (s.takeSequencerClaim c).leases.ticksDue = s.leases.ticksDue :=
    State.takeSequencerClaim_keeps (fun u => u.leases.ticksDue) (fun _ _ _ => rfl) (fun _ _ => rfl) s c
  rw [← s.takeSequencerClaim_inForce, ← due, ← s.takeSequencerClaim_sequencerClaims c]

/-- Everything but the Lease Table stands. -/
theorem State.takeSequencerClaim_rest (s : State) (c : SequencerClaim) :
    s.takeSequencerClaim c = { s with leases := (s.takeSequencerClaim c).leases } := by
  have rest : ({ s.takeSequencerClaim c with leases := s.leases } : State) = s :=
    State.takeSequencerClaim_keeps (fun u => { u with leases := s.leases }) (fun _ _ _ => rfl) (fun _ _ => rfl) s c
  exact congrArg (fun u : State => { u with leases := (s.takeSequencerClaim c).leases }) rest

/-- Settles O47: a produced tick reaches three blocks, and the Lease Table takes the oldest claim, entry by entry. -/
theorem tickProductionAndSequencerClaims : Obligations.TickProductionAndSequencerClaims := by
  intro s
  refine ⟨fun running released => ?_, fun idle => ?_, fun rest claims => ?_, fun p rest claims => ?_⟩
  · have on : (s.timebase.running && !s.resetAsserted) = true := by rw [running, released]; rfl
    exact if_pos on
  · have off : ¬(s.timebase.running && !s.resetAsserted) = true := by
      rintro on
      obtain ⟨running, released⟩ := Bool.and_eq_true_iff.mp on
      rcases idle with stopped | reset
      · exact Bool.false_ne_true (stopped.symm.trans running)
      · rw [reset] at released
        cases released
    exact if_neg off
  · simp only [exec, execNoneClaim, claims]
    rfl
  · have taken : exec .opening s = .next ((s.setSequencerClaims rest).takeSequencerClaim (.opening p)) := by
      simp only [exec, execOpening, claims]
    have leases := (s.setSequencerClaims rest).takeSequencerClaim_leases (.opening p)
    have others := (s.setSequencerClaims rest).takeSequencerClaim_rest (.opening p)
    have entry := (s.setSequencerClaims rest).takeSequencerClaim_entry (.opening p)
    generalize (s.setSequencerClaims rest).takeSequencerClaim (.opening p) = t at *
    refine ⟨t, taken, others, leases, fun i g o l y x body slot phase => ?_, fun i other => ?_⟩
    · have old : (s.setSequencerClaims rest).entry i = { gen := g, body := .active o l y } := body
      rw [entry, old, Entry.take_opening slot phase]
    · rw [entry]
      exact Entry.take_of_other other

/-! ## SET-PHASES (R153, R154) -/

theorem firstOpen_lowest {v : Vector Nat 4} {c : List Phase} (rising : c.Pairwise (· < ·)) {p : Phase} (mem : p ∈ c)
    (opens : v[p] ≠ 0) (skipped : ∀ r ∈ c, r < p → v[r] = 0) : firstOpen v c = some p :=
  find?_lowest rising mem (bne_iff_ne.mpr opens) fun r hr below => by
    simp only [skipped r hr below, bne_self_eq_false]

theorem firstOpen_of_skipped {v : Vector Nat 4} {c : List Phase} (skipped : ∀ r ∈ c, v[r] = 0) : firstOpen v c = none :=
  List.find?_eq_none.mpr fun r hr => by simp only [skipped r hr, bne_self_eq_false, Bool.false_eq_true, not_false_iff]

theorem mem_allPhases (p : Phase) : p ∈ allPhases := List.mem_finRange p

/-- The claims taken at one entry, oldest first. -/
theorem State.takeAllSequencerClaims_entry (s : State) (c : SequencerClaim) (i : EntryId) :
    (s.takeAllSequencerClaims c).entry i = ((s.leases.sequencerClaims ++ [c]).foldl Entry.take (s.entry i)) := by
  have all : ∀ (l : List SequencerClaim) (u : State),
      (l.foldl State.takeSequencerClaim u).entry i = l.foldl Entry.take (u.entry i) := by
    intro l
    induction l with
    | nil => exact fun _ => rfl
    | cons a l ih =>
      intro u
      rw [List.foldl_cons, List.foldl_cons, ih, State.takeSequencerClaim_entry]
  rw [State.takeAllSequencerClaims, all]
  rfl

/-- A slotted entry keeps its slot's phase under every claim. -/
theorem Entry.foldl_take_slotted {g : BitVec 8} {o : AgentId} {y : Option AgentId} {l : Lease} (claims : List SequencerClaim)
    (x : Slot) : ∃ e : Bool, claims.foldl Entry.take { gen := g, body := .active o { l with slot := some x } y } =
      { gen := g, body := .active o { l with slot := some { x with effective := e } } y } := by
  induction claims generalizing x with
  | nil => exact ⟨x.effective, rfl⟩
  | cons c claims ih =>
    cases c with
    | none => exact ih x
    | opening p =>
      simp only [List.foldl_cons, Entry.take, EntryBody.makeEffective]
      split
      · obtain ⟨e, taken⟩ := ih { x with effective := true }
        exact ⟨e, taken⟩
      · exact ih x

theorem Entry.foldl_take_none {claims : List SequencerClaim} (h : ∀ k ∈ claims, k = .none) (e : Entry) :
    claims.foldl Entry.take e = e := by
  induction claims with
  | nil => rfl
  | cons c claims ih =>
    rw [List.foldl_cons, h c List.mem_cons_self]
    exact ih fun k hk => h k (List.mem_cons_of_mem c hk)

theorem State.takeAllSequencerClaims_keeps {α : Type} (P : State → α) (entry : ∀ s i e, P (State.setEntry s i e) = P s)
    (inForce : ∀ s p, P (State.setInForce s p) = P s) (claims : ∀ s l, P (State.setSequencerClaims s l) = P s) (s : State)
    (c : SequencerClaim) : P (s.takeAllSequencerClaims c) = P s := by
  rw [State.takeAllSequencerClaims, foldl_keeps P (State.takeSequencerClaim_keeps P entry inForce), claims]

theorem State.takeAllSequencerClaims_ticksDue (s : State) (c : SequencerClaim) :
    (s.takeAllSequencerClaims c).leases.ticksDue = s.leases.ticksDue :=
  State.takeAllSequencerClaims_keeps (fun u => u.leases.ticksDue) (fun _ _ _ => rfl) (fun _ _ => rfl) (fun _ _ => rfl) s c

/-- Everything but the Lease Table stands. -/
theorem State.takeAllSequencerClaims_rest (s : State) (c : SequencerClaim) :
    s.takeAllSequencerClaims c = { s with leases := (s.takeAllSequencerClaims c).leases } := by
  have rest : ({ s.takeAllSequencerClaims c with leases := s.leases } : State) = s :=
    State.takeAllSequencerClaims_keeps (fun u => { u with leases := s.leases }) (fun _ _ _ => rfl) (fun _ _ => rfl)
      (fun _ _ => rfl) s c
  exact congrArg (fun u : State => { u with leases := (s.takeAllSequencerClaims c).leases }) rest

/-- Settles O45: lengths are left pending, or adopted at once; then the claims on their way are taken first, and the
opening of the first phase that is not skipped after them. -/
theorem setPhasesPendingOrAtOnce : Obligations.SetPhasesPendingOrAtOnce := by
  intro s n ps v run lengths
  have fields : lengthFields ps = v := lengths.symm
  refine ⟨fun waits => ?_, fun idle running => ?_⟩
  · have later : ¬(s.phases.current = none ∧ s.timebase.running = true) := by
      rintro ⟨idle, running⟩
      rcases waits with h | h
      · exact h idle
      · rw [running] at h
        cases h
    refine exec_of_granted (c := .setPhases) run ?_ rfl
    simp only [Command.run, State.writePhases, fields, if_neg later]
  · have now : s.phases.current = none ∧ s.timebase.running = true := ⟨idle, running⟩
    refine ⟨fun skipped => ?_, fun p opens skipped => ?_⟩
    · have closed : firstOpen v allPhases = none := firstOpen_of_skipped fun r _ => skipped r
      refine exec_of_granted (c := .setPhases) run ?_ rfl
      simp only [Command.run, State.writePhases, fields, if_pos now, PhaseSequencer.adopt, closed]
    · have first : firstOpen v allPhases = some p :=
        firstOpen_lowest allPhases_rising (mem_allPhases p) opens fun r _ => skipped r
      generalize adopted : s.setPhases { s.phases with
        current := some p, ticksLeft := v[p], active := v, pending := v, pendingFlag := false } = u
      have e : Command.setPhases.run n ps s = granted (u.takeAllSequencerClaims (.opening p)) := by
        simp only [Command.run, State.writePhases, fields, if_pos now, PhaseSequencer.adopt, first,
          PhaseSequencer.openPhase, ← adopted]
      have entry := u.takeAllSequencerClaims_entry (.opening p)
      have uentry : ∀ i, u.entry i = s.entry i := fun i => by rw [← adopted, State.setPhases_entry]
      have uclaims : u.leases = s.leases := by rw [← adopted, State.setPhases_leases]
      have rest := u.takeAllSequencerClaims_rest (.opening p)
      have others : ∀ {α : Type} (P : State → α), (∀ (t : State) x, P { t with leases := x } = P t) →
          (∀ t x, P (State.setPhases t x) = P t) → P (u.takeAllSequencerClaims (.opening p)) = P s := by
        intro α P leases phases
        rw [rest, leases, ← adopted, phases]
      refine ⟨_, exec_of_granted run e (others (fun t => t.port n) (fun _ _ => rfl) fun _ _ => rfl), ?_, ?_, ?_, ?_,
        fun i g o l y x body slot phase => ?_, fun quiet i other => ?_, ?_, ?_, ?_, ?_, ?_, ?_, ?_, ?_, ?_⟩
      · rw [State.takeAllSequencerClaims_phases, ← adopted, State.setPhases_phases]
      · rw [State.takeAllSequencerClaims_inForce]; rfl
      · rw [State.takeAllSequencerClaims_sequencerClaims]
      · rw [u.takeAllSequencerClaims_ticksDue, uclaims]
      · rw [entry, uentry, body, List.foldl_append, List.foldl_cons, List.foldl_nil]
        obtain ⟨b, taken⟩ := Entry.foldl_take_slotted (g := g) (o := o) (y := y) (l := l) u.leases.sequencerClaims x
        have same : ({ l with slot := some x } : Lease) = l := by rw [← slot]
        rw [same] at taken
        rw [taken]
        exact Entry.take_opening rfl phase
      · rw [entry, uentry, List.foldl_append, List.foldl_cons, List.foldl_nil, Entry.foldl_take_none (by rw [uclaims]; exact quiet)]
        exact Entry.take_of_other other
      · exact others State.ports (fun _ _ => rfl) fun _ _ => rfl
      · exact others State.waits (fun _ _ => rfl) fun _ _ => rfl
      · exact others State.manager (fun _ _ => rfl) fun _ _ => rfl
      · exact others State.profiles (fun _ _ => rfl) fun _ _ => rfl
      · exact others State.guards (fun _ _ => rfl) fun _ _ => rfl
      · exact others State.scrub (fun _ _ => rfl) fun _ _ => rfl
      · exact others State.timebase (fun _ _ => rfl) fun _ _ => rfl
      · exact others State.memPort (fun _ _ => rfl) fun _ _ => rfl
      · exact others State.sram (fun _ _ => rfl) fun _ _ => rfl

end Sys2Proof.Machine
end

section
/-! SUPPORT. One tick at the Phase Sequencer (R148, R149). -/

namespace Sys2Proof.Machine

/-! ## The sequencer's own moves -/

section
variable {q : PhaseSequencer} {v : Vector Nat 4}

/-- The frame boundary, where some phase is not skipped (R149). -/
theorem PhaseSequencer.boundary_opens (hv : v = if q.pendingFlag then q.pending else q.active) {p : Phase}
    (first : firstOpen v allPhases = some p) :
    q.boundary =
      ({ q with current := some p, ticksLeft := v[p], active := v, pendingFlag := false }, some (.opening p)) := by
  obtain ⟨current, left, active, pending, flag, due⟩ := q
  cases flag <;> subst hv <;> simp_all [PhaseSequencer.boundary, PhaseSequencer.openPhase]

/-- The frame boundary, where every phase is skipped (R149). -/
theorem PhaseSequencer.boundary_closes (hv : v = if q.pendingFlag then q.pending else q.active)
    (closed : firstOpen v allPhases = none) :
    q.boundary =
      ({ q with current := none, ticksLeft := 0, active := v, pendingFlag := false },
        if q.current.isSome then some .none else none) := by
  obtain ⟨current, left, active, pending, flag, due⟩ := q
  cases flag <;> subst hv <;> simp_all [PhaseSequencer.boundary]

theorem PhaseSequencer.tick_idle (current : q.current = none) (flag : q.pendingFlag = false) : q.tick = (q, none) := by
  simp only [PhaseSequencer.tick, current, flag, Bool.false_eq_true, if_false]

theorem PhaseSequencer.tick_adopts (current : q.current = none) (flag : q.pendingFlag = true) : q.tick = q.boundary := by
  simp only [PhaseSequencer.tick, current, flag, if_true]

theorem PhaseSequencer.tick_counts {c : Phase} (current : q.current = some c) (more : 1 < q.ticksLeft) :
    q.tick = ({ q with ticksLeft := q.ticksLeft - 1 }, none) := by
  simp only [PhaseSequencer.tick, current, if_pos more]

theorem PhaseSequencer.tick_ends {c : Phase} (current : q.current = some c) (last : q.ticksLeft = 1) :
    q.tick = { q with ticksLeft := 0 }.advance c := by
  simp only [PhaseSequencer.tick, current, last, Nat.lt_irrefl, if_false]

/-- The phases after c that the advance looks through, in rising order. -/
theorem mem_later {c r : Phase} : r ∈ allPhases.filter (c < ·) ↔ c < r := by
  simp [List.mem_filter, mem_allPhases]

theorem later_rising (c : Phase) : (allPhases.filter (c < ·)).Pairwise (· < ·) := allPhases_rising.filter _

end

/-- The claim of a tick that is due at the sequencer (R134). -/
theorem State.phaseTick_of_due {s : State} {k : Nat} {q : PhaseSequencer} (due : s.phases.ticksDue = k + 1)
    (hq : q = { s.phases with ticksDue := k }) : s.phaseTick = (s.setPhases q.tick.1).handClaim q.tick.2 := by
  simp only [State.phaseTick, due, hq]

/-- Settles O50: the phase counts down, the next phase opens, or the boundary is passed. -/
theorem tickAdvancesTheSequencer : Obligations.TickAdvancesTheSequencer := by
  intro s k q due hq
  have tick : ∀ r, q.tick = r → exec (.tick .phaseSequencer) s = .next ((s.setPhases r.1).handClaim r.2) :=
    fun r e => by rw [← e]; exact congrArg Host.Outcome.next (State.phaseTick_of_due due hq)
  have current : s.phases.current = q.current := by rw [hq]
  have left : s.phases.ticksLeft = q.ticksLeft := by rw [hq]
  refine ⟨fun idle flag => tick _ (PhaseSequencer.tick_idle idle flag),
    fun c phase more => tick _ (PhaseSequencer.tick_counts phase more), fun c phase last => ?_,
    fun v hv boundary => ?_⟩
  · have ends : exec .phaseAdvance s = exec (.tick .phaseSequencer) s := by
      have advances : (s.phases.current.isSome && decide (s.phases.ticksLeft ≤ 1)) = true := by
        rw [current, left, phase, last]; rfl
      exact if_pos advances
    refine ⟨ends, fun p later opens skipped e he => ?_⟩
    have first : firstOpen q.active (allPhases.filter (c < ·)) = some p :=
      firstOpen_lowest (later_rising c) (mem_later.mpr later) opens fun r hr below => skipped r (mem_later.mp hr) below
    have opened := tick ({ q with current := some p, ticksLeft := q.active[p] }, some (.opening p)) (by
      rw [PhaseSequencer.tick_ends phase last]
      simp only [PhaseSequencer.advance, first, PhaseSequencer.openPhase])
    rcases he with rfl | rfl
    · exact opened
    · exact ends.trans opened
  · have passes : ∃ x, q.tick = { q with ticksLeft := x }.boundary := by
      rcases boundary with ⟨idle, flag⟩ | ⟨last, c, phase, skipped⟩
      · exact ⟨q.ticksLeft, PhaseSequencer.tick_adopts idle flag⟩
      · have none_ : firstOpen q.active (allPhases.filter (c < ·)) = none :=
          firstOpen_of_skipped fun r hr => skipped r (mem_later.mp hr)
        refine ⟨0, ?_⟩
        rw [PhaseSequencer.tick_ends phase last]
        simp only [PhaseSequencer.advance, none_]
    obtain ⟨x, passes⟩ := passes
    refine ⟨fun p opens skipped => ?_, fun skipped => ?_⟩
    · have first := firstOpen_lowest allPhases_rising (mem_allPhases p) opens fun r _ => skipped r
      exact tick _ (passes.trans (PhaseSequencer.boundary_opens (q := { q with ticksLeft := x }) hv first))
    · have closed := firstOpen_of_skipped fun r (_ : r ∈ allPhases) => skipped r
      rw [tick _ (passes.trans (PhaseSequencer.boundary_closes (q := { q with ticksLeft := x }) hv closed))]
      cases q.current with
      | none => rw [if_pos rfl, List.append_nil]; rfl
      | some c => rfl

end Sys2Proof.Machine
end

section
/-! SUPPORT. Claims that walk over the entries or the wait entries: what each visit sees, which causes the walk raises,
and what it leaves of the waiting order. -/

namespace Sys2Proof.Machine

/-! ## Walks -/

/-- Where a visit changes its own record alone, each visit of a walk meets its record as it stood at the begin. -/
theorem foldl_visits {ι β : Type} {get : State → ι → β} {f : State → ι → State}
    (other : ∀ t i j, j ≠ i → get (f t i) j = get t j) {I : State → Prop} (s : State)
    (visit : ∀ t i, get t i = get s i → I t → I (f t i)) :
    ∀ l : List ι, l.Nodup → ∀ t, (∀ i ∈ l, get t i = get s i) → I t → I (l.foldl f t)
  | [], _, _, _, inv => inv
  | i :: l, nodup, t, same, inv => by
    obtain ⟨fresh, nodup⟩ := List.nodup_cons.mp nodup
    refine foldl_visits other s visit l nodup (f t i) (fun j hj => ?_) (visit t i (same i List.mem_cons_self) inv)
    rw [other t i j fun eq => fresh (eq ▸ hj)]
    exact same j (List.mem_cons_of_mem i hj)

/-- A walk leaves the records that it does not visit. -/
theorem foldl_of_notMem {ι β : Type} {get : State → ι → β} {f : State → ι → State}
    (other : ∀ t i j, j ≠ i → get (f t i) j = get t j) {j : ι} :
    ∀ (l : List ι), j ∉ l → ∀ t, get (l.foldl f t) j = get t j
  | [], _, _ => rfl
  | i :: l, fresh, t => by
    obtain ⟨ne, fresh⟩ := not_or.mp (mt List.mem_cons.mpr fresh)
    rw [List.foldl_cons, foldl_of_notMem other l fresh, other t i j ne]

/-- What a walk leaves of a record is what its visit leaves there. -/
theorem foldl_record {ι β : Type} {get : State → ι → β} {f : State → ι → State}
    (other : ∀ t i j, j ≠ i → get (f t i) j = get t j) {l : List ι} (nodup : l.Nodup) {j : ι} (mem : j ∈ l) (s : State) :
    ∃ t, get t j = get s j ∧ get (l.foldl f s) j = get (f t j) j := by
  obtain ⟨a, b, rfl⟩ := List.append_of_mem mem
  have fresh : j ∉ a ∧ j ∉ b := by
    rw [List.nodup_append, List.nodup_cons] at nodup
    obtain ⟨-, ⟨notRight, -⟩, apart⟩ := nodup
    exact ⟨fun left => apart j left j List.mem_cons_self rfl, notRight⟩
  refine ⟨a.foldl f s, foldl_of_notMem other a fresh.1 s, ?_⟩
  rw [List.foldl_append, List.foldl_cons, foldl_of_notMem other b fresh.2]

/-- What the visit of record j establishes, and every visit keeps, the walk establishes. -/
theorem foldl_establishes {ι β : Type} {get : State → ι → β} {f : State → ι → State}
    (other : ∀ t i j, j ≠ i → get (f t i) j = get t j) {I Q : State → Prop} (keeps : ∀ t i, I t → I (f t i))
    (stays : ∀ t i, Q t → Q (f t i)) {l : List ι} (nodup : l.Nodup) {j : ι} (mem : j ∈ l) {s : State} (begin_ : I s)
    (visit : ∀ t, get t j = get s j → I t → Q (f t j)) : Q (l.foldl f s) := by
  obtain ⟨a, b, rfl⟩ := List.append_of_mem mem
  have fresh : j ∉ a := by
    rw [List.nodup_append] at nodup
    obtain ⟨-, -, apart⟩ := nodup
    exact fun left => apart j left j List.mem_cons_self rfl
  rw [List.foldl_append, List.foldl_cons]
  exact foldl_invariant stays b _ (visit _ (foldl_of_notMem other a fresh s) (foldl_invariant keeps a s begin_))

/-- Where each visit takes its own wait entry out of the waiting order, by a test of that entry, the walk takes out
those that pass the test. -/
theorem foldl_order {f : State → WaitId → State} (other : ∀ t w v, v ≠ w → (f t w).wait v = t.wait v)
    (test : WaitEntry → Bool)
    (leaves : ∀ t w, (f t w).waits.order = t.waits.order.filter fun v => !(v == w && test (t.wait w))) :
    ∀ l : List WaitId, l.Nodup → ∀ t,
      (l.foldl f t).waits.order = t.waits.order.filter fun v => !(l.contains v && test (t.wait v))
  | [], _, _ => (List.filter_eq_self.mpr fun _ _ => rfl).symm
  | w :: l, nodup, t => by
    obtain ⟨fresh, nodup⟩ := List.nodup_cons.mp nodup
    rw [List.foldl_cons, foldl_order other test leaves l nodup, leaves, List.filter_filter]
    refine List.filter_congr fun v _ => ?_
    by_cases eq : v = w
    · subst eq
      simp [fresh]
    · simp [eq, other t w v eq]

/-! ## The causes raised -/

/-- From s to t causes are set where A says so, and nothing else of a profile changes. -/
def State.RaisesOnly (s : State) (A : AgentId → Cause → Prop) (t : State) : Prop :=
  ∀ n, t.profile n = { s.profile n with status := (t.profile n).status } ∧
    (∀ b, (s.profile n).status.getLsbD b = true → (t.profile n).status.getLsbD b = true) ∧
    ∀ b, (∀ c, A n c → c.bit ≠ b) → (t.profile n).status.getLsbD b = (s.profile n).status.getLsbD b

section
variable {A : AgentId → Cause → Prop} {s t u : State}

theorem State.RaisesOnly.of_profiles (h : ∀ n, t.profile n = s.profile n) : s.RaisesOnly A t := fun n => by
  rw [h n]
  exact ⟨rfl, fun _ set => set, fun _ _ => rfl⟩

theorem State.RaisesOnly.trans (h : s.RaisesOnly A t) (k : t.RaisesOnly A u) : s.RaisesOnly A u := fun n => by
  obtain ⟨first, up, same⟩ := h n
  obtain ⟨second, up', same'⟩ := k n
  refine ⟨?_, fun b set => up' b (up b set), fun b free => (same' b free).trans (same b free)⟩
  rw [second, first]

theorem State.raise_profile_ne (s : State) (c : Cause) {n m : AgentId} (h : n ≠ m) :
    (s.raise c n).profile m = s.profile m := by rw [State.raise, State.setProfile_profile, if_neg h]

theorem State.raise_profile_self (s : State) (c : Cause) (n : AgentId) :
    (s.raise c n).profile n = { s.profile n with status := (s.profile n).status ||| c.mask } := by
  rw [State.raise, State.setProfile_profile, if_pos rfl]

theorem Cause.mask_getLsbD (c : Cause) {b : Nat} (h : c.bit ≠ b) : c.mask.getLsbD b = false := by
  by_cases wide : b < 9
  · have each : ∀ k < 9, c.bit ≠ k → c.mask.getLsbD k = false := by cases c <;> decide
    exact each b wide h
  · exact BitVec.getLsbD_of_ge _ _ (Nat.not_lt.mp wide)

theorem State.RaisesOnly.raise {c : Cause} {n : AgentId} (h : A n c) : s.RaisesOnly A (s.raise c n) := fun m => by
  by_cases same : n = m
  · subst same
    rw [s.raise_profile_self c n]
    refine ⟨rfl, fun b set => ?_, fun b free => ?_⟩
    · rw [BitVec.getLsbD_or, set, Bool.true_or]
    · rw [BitVec.getLsbD_or, c.mask_getLsbD (free c h), Bool.or_false]
  · rw [s.raise_profile_ne c same]
    exact ⟨rfl, fun _ set => set, fun _ _ => rfl⟩

/-- Where nothing can be raised at agent n, its profile stands. -/
theorem State.RaisesOnly.profile_of_none (h : s.RaisesOnly A t) {n : AgentId} (none_ : ∀ c, ¬A n c) :
    t.profile n = s.profile n := by
  obtain ⟨same, -, bits⟩ := h n
  have status : (t.profile n).status = (s.profile n).status :=
    BitVec.eq_of_getLsbD_eq fun b _ => bits b fun c may => absurd may (none_ c)
  rw [same, status]

theorem State.RaisesOnly.isIn (h : s.RaisesOnly A t) {n : AgentId} {c : Cause}
    (set : c.isIn (s.profile n).status = true) : c.isIn (t.profile n).status = true := by
  obtain ⟨-, up, -⟩ := h n
  rw [Cause.isIn_eq] at set ⊢
  exact up _ set

theorem State.raise_isIn (s : State) (c : Cause) (n : AgentId) : c.isIn ((s.raise c n).profile n).status = true := by
  rw [s.raise_profile_self c n, Cause.isIn_or, Cause.isIn_mask, decide_eq_true rfl, Bool.or_true]

end

end Sys2Proof.Machine
end

section
/-! SUPPORT. One tick at the Wait List (R87, R89). -/

namespace Sys2Proof.Machine

section
variable (s : State)

theorem State.tickWait_timesOut {w : WaitId} {g : BitVec 4} {n : AgentId} {q : Request} {d : Nat}
    (body : s.wait w = { gen := g, body := .waiting n q (some d) }) (last : d ≤ 1) :
    s.tickWait w = s.resolveWait w .timedOut := by
  have zero : d - 1 = 0 := by omega
  simp only [State.tickWait, body, if_pos zero]

theorem State.tickWait_counts {w : WaitId} {g : BitVec 4} {n : AgentId} {q : Request} {d : Nat}
    (body : s.wait w = { gen := g, body := .waiting n q (some d) }) (more : 1 < d) :
    s.tickWait w = s.setWait w { gen := g, body := .waiting n q (some (d - 1)) } := by
  have positive : d - 1 ≠ 0 := by omega
  simp only [State.tickWait, body, if_neg positive]

theorem State.tickWait_of_other {w : WaitId} (h : ∀ n q d, (s.wait w).body ≠ .waiting n q (some d)) :
    s.tickWait w = s := by
  unfold State.tickWait
  split
  next n q d body => exact absurd body (h n q d)
  all_goals rfl

/-- What one tick makes of a wait entry: nothing, one less of its deadline, or the end of its wait (R87). -/
theorem State.tickWait_cases (w : WaitId) :
    (s.tickWait w = s ∧ (s.wait w).body.timesOutNext = false) ∨
      (∃ e, s.tickWait w = s.setWait w e ∧ (s.wait w).body.timesOutNext = false) ∨
      ∃ n q d, (s.wait w).body = .waiting n q (some d) ∧ d ≤ 1 ∧ s.tickWait w = s.resolveWait w .timedOut ∧
        (s.wait w).body.timesOutNext = true := by
  by_cases waits : ∃ n q d, (s.wait w).body = .waiting n q (some d)
  · obtain ⟨n, q, d, body⟩ := waits
    have entry : s.wait w = { gen := (s.wait w).gen, body := .waiting n q (some d) } := by rw [← body]
    by_cases last : d ≤ 1
    · refine .inr (.inr ⟨n, q, d, body, last, s.tickWait_timesOut entry last, ?_⟩)
      rw [body]
      exact beq_iff_eq.mpr (by omega)
    · refine .inr (.inl ⟨_, s.tickWait_counts entry (Nat.not_le.mp last), ?_⟩)
      rw [body]
      exact beq_eq_false_iff_ne.mpr (by omega)
  · have other : ∀ n q d, (s.wait w).body ≠ .waiting n q (some d) := fun n q d body => waits ⟨n, q, d, body⟩
    refine .inl ⟨s.tickWait_of_other other, ?_⟩
    cases body : (s.wait w).body with
    | waiting n q d =>
      cases d with
      | none => rfl
      | some d => exact absurd body (other n q d)
    | _ => rfl

theorem State.tickWait_wait_ne (w v : WaitId) (h : v ≠ w) : (s.tickWait w).wait v = s.wait v := by
  rcases s.tickWait_cases w with ⟨e, -⟩ | ⟨e, set, -⟩ | ⟨-, -, -, -, -, e, -⟩
  · rw [e]
  · rw [set, State.setWait_wait, if_neg h.symm]
  · rw [e, State.resolveWait_wait_ne _ _ h]

theorem State.tickWait_order (w : WaitId) :
    (s.tickWait w).waits.order = s.waits.order.filter fun v => !(v == w && (s.wait w).body.timesOutNext) := by
  have all : s.waits.order.filter (fun v => !(v == w && false)) = s.waits.order := by simp
  rcases s.tickWait_cases w with ⟨e, out⟩ | ⟨e, set, out⟩ | ⟨n, q, d, body, last, e, out⟩
  · rw [e, out, all]
  · rw [set, out, all]; rfl
  · have entry : s.wait w = { gen := (s.wait w).gen, body := .waiting n q (some d) } := by rw [← body]
    rw [e, out, State.resolveWait_of_waiting s entry, State.raise_waits]
    exact List.filter_congr fun v _ => by simp [bne]

theorem State.tickWait_ticksDue (w : WaitId) : (s.tickWait w).waits.ticksDue = s.waits.ticksDue := by
  rcases s.tickWait_cases w with ⟨e, -⟩ | ⟨e, set, -⟩ | ⟨n, q, d, body, -, e, -⟩
  · rw [e]
  · rw [set]; rfl
  · have entry : s.wait w = { gen := (s.wait w).gen, body := .waiting n q (some d) } := by rw [← body]
    rw [e, State.resolveWait_of_waiting s entry]
    rfl

/-- One tick at wait entry w raises GRANT alone, at the requester whose wait ends. -/
theorem State.tickWait_raises_grant (w : WaitId) {A : AgentId → Cause → Prop}
    (h : ∀ n q d, (s.wait w).body = .waiting n q (some d) → d ≤ 1 → A n .grant) : s.RaisesOnly A (s.tickWait w) := by
  rcases s.tickWait_cases w with ⟨e, -⟩ | ⟨e, set, -⟩ | ⟨n, q, d, body, last, e, -⟩
  · rw [e]; exact .of_profiles fun _ => rfl
  · rw [set]; exact .of_profiles fun _ => rfl
  · have entry : s.wait w = { gen := (s.wait w).gen, body := .waiting n q (some d) } := by rw [← body]
    rw [e, State.resolveWait_of_waiting s entry]
    have resolved : ∀ x l, s.RaisesOnly A ((s.setWait w x).setWaitOrder l) := fun _ _ => .of_profiles fun _ => rfl
    exact (resolved _ _).trans (.raise (h n q d body last))

/-- The Wait List and the profiles apart, a tick at a wait entry leaves everything. -/
theorem State.tickWait_rest (w : WaitId) :
    s.tickWait w = { s with waits := (s.tickWait w).waits, profiles := (s.tickWait w).profiles } := by
  rcases s.tickWait_cases w with ⟨e, -⟩ | ⟨e, set, -⟩ | ⟨n, q, d, body, -, e, -⟩
  · rw [e]
  · rw [set]; rfl
  · have entry : s.wait w = { gen := (s.wait w).gen, body := .waiting n q (some d) } := by rw [← body]
    rw [e, State.resolveWait_of_waiting s entry]
    rfl

end

/-- The tick's visits of the wait entries, before the pass may end. -/
def State.tickWaits (s : State) (k : Nat) : State :=
  allWaits.foldl State.tickWait { s with waits := { s.waits with ticksDue := k } }

theorem State.waitTick_of_due {s : State} {k : Nat} (due : s.waits.ticksDue = k + 1) :
    s.waitTick = (s.tickWaits k).endPassIfDone := by
  simp only [State.waitTick, due]
  rfl

section
variable (s : State) (k : Nat)

theorem State.tickWaits_wait (w : WaitId) :
    ∃ t : State, t.wait w = s.wait w ∧ (s.tickWaits k).wait w = (t.tickWait w).wait w := by
  have begin_ : State.wait { s with waits := { s.waits with ticksDue := k } } w = s.wait w := rfl
  rw [← begin_, State.tickWaits]
  exact foldl_record (fun t i j ne => t.tickWait_wait_ne i j ne) allWaits_nodup (mem_allWaits w) _

theorem State.tickWaits_ticksDue : (s.tickWaits k).waits.ticksDue = k := by
  rw [State.tickWaits]
  rw [foldl_keeps (f := State.tickWait) (fun t => t.waits.ticksDue) State.tickWait_ticksDue]

theorem State.tickWaits_order :
    (s.tickWaits k).waits.order = s.waits.order.filter fun w => !(s.wait w).body.timesOutNext := by
  rw [State.tickWaits, foldl_order (fun t w v ne => t.tickWait_wait_ne w v ne) (fun e => e.body.timesOutNext)
    (fun t w => t.tickWait_order w) allWaits allWaits_nodup]
  exact List.filter_congr fun v _ => by rw [List.contains_iff_mem.mpr (mem_allWaits v), Bool.true_and]; rfl

/-- What a walk of the tick keeps, where it is kept at wait entries that stand as at its begin. -/
theorem State.tickWaits_keeps {I : State → Prop} (visit : ∀ (t : State) w, t.wait w = s.wait w → I t → I (t.tickWait w))
    (begin_ : I { s with waits := { s.waits with ticksDue := k } }) : I (s.tickWaits k) :=
  foldl_visits (get := State.wait) (f := State.tickWait) (fun t i j ne => t.tickWait_wait_ne i j ne) s visit allWaits
    allWaits_nodup _ (fun _ _ => rfl) begin_

theorem State.tickWaits_rest :
    s.tickWaits k = { s with waits := (s.tickWaits k).waits, profiles := (s.tickWaits k).profiles } :=
  s.tickWaits_keeps k (I := fun t => t = { s with waits := t.waits, profiles := t.profiles })
    (fun t w _ rest => by rw [t.tickWait_rest w, rest]) rfl

/-- GRANT is set at the requesters whose waits end, and nothing else of a profile changes. -/
theorem State.tickWaits_raises : s.RaisesOnly
    (fun n c => c = .grant ∧ ∃ w q d, (s.wait w).body = .waiting n q (some d) ∧ d ≤ 1) (s.tickWaits k) :=
  s.tickWaits_keeps k (fun t w same raises => raises.trans (t.tickWait_raises_grant w fun n q d body last =>
    ⟨rfl, w, q, d, by rw [← same]; exact body, last⟩)) (.of_profiles fun _ => rfl)

/-- The requester of a wait that ends has GRANT set. -/
theorem State.tickWaits_grant {w : WaitId} {g : BitVec 4} {n : AgentId} {q : Request}
    (body : s.wait w = { gen := g, body := .waiting n q (some 1) }) :
    Cause.grant.isIn ((s.tickWaits k).profile n).status = true := by
  refine foldl_establishes (get := State.wait) (f := State.tickWait) (I := fun _ => True)
    (Q := fun t => Cause.grant.isIn (t.profile n).status = true) (fun t i j ne => t.tickWait_wait_ne i j ne)
    (fun _ _ _ => trivial) (fun t v set => ?_) allWaits_nodup (mem_allWaits w) trivial fun t same _ => ?_
  · exact (t.tickWait_raises_grant v (A := fun _ c => c = .grant) fun _ _ _ _ _ => rfl).isIn set
  · have here : t.wait w = { gen := g, body := .waiting n q (some 1) } := same.trans body
    rw [t.tickWait_timesOut here (Nat.le_refl 1), State.resolveWait_of_waiting t here]
    exact State.raise_isIn _ .grant n

end

/-- The end of the pass changes the job in hand alone. -/
theorem State.endPassIfDone_eq (s : State) :
    s.endPassIfDone = { s with manager := { s.manager with job := s.endPassIfDone.manager.job } } := by
  unfold State.endPassIfDone
  split
  · split <;> rfl
  all_goals rfl

theorem State.endPassIfDone_of_pass {s : State} {todo : List WaitId} (h : s.manager.job = some (.pass todo)) :
    s.endPassIfDone.manager.job = if ∃ v ∈ todo, v ∈ s.waits.order then some (.pass todo) else none := by
  have waiting : (todo.any fun v => s.waits.order.contains v) = true ↔ ∃ v ∈ todo, v ∈ s.waits.order := by
    simp only [List.any_eq_true, List.contains_iff_mem]
  simp only [State.endPassIfDone, h]
  by_cases more : ∃ v ∈ todo, v ∈ s.waits.order
  · rw [if_pos (waiting.mpr more), if_pos more, h]
  · rw [if_neg (mt waiting.mp more), if_neg more]
    rfl

theorem State.endPassIfDone_of_other {s : State} (h : ∀ todo, s.manager.job ≠ some (.pass todo)) :
    s.endPassIfDone = s := by
  unfold State.endPassIfDone
  split
  next todo job => exact absurd job (h todo)
  all_goals rfl

/-- Settles O49: the walk over the wait entries, and then the end of a pass with nothing left to examine. -/
theorem tickCountsDeadlinesDown : Obligations.TickCountsDeadlinesDown := by
  intro s k due
  have tick := State.waitTick_of_due due
  have rest := s.tickWaits_rest k
  have raises := s.tickWaits_raises k
  have manager : (s.tickWaits k).manager = s.manager := by rw [rest]
  refine ⟨(s.tickWaits k).endPassIfDone, congrArg Host.Outcome.next tick, fun ⟨w, n, q, body⟩ => ?_, ?_,
    fun w g n q d body => ⟨fun more => ?_, fun last => ?_⟩, fun w other => ?_, ?_, fun todo job => ?_, fun other => ?_, ?_,
    fun n => ⟨?_, fun b other => ?_, fun none_ => ?_⟩, ?_⟩
  · have any : (allWaits.any fun w => (s.wait w).body.timesOutNext) = true :=
      List.any_eq_true.mpr ⟨w, mem_allWaits w, by rw [body]; rfl⟩
    rw [← tick]
    exact if_pos any
  · rw [State.endPassIfDone_waits, s.tickWaits_ticksDue]
  · obtain ⟨t, old, new⟩ := s.tickWaits_wait k w
    rw [State.endPassIfDone_wait, new, t.tickWait_counts (old.trans body) more, State.setWait_wait, if_pos rfl]
  · subst last
    obtain ⟨t, old, new⟩ := s.tickWaits_wait k w
    rw [State.endPassIfDone_wait, new, t.tickWait_timesOut (old.trans body) (Nat.le_refl 1),
      State.resolveWait_of_waiting t (old.trans body), State.endPassIfDone_profile]
    refine ⟨?_, s.tickWaits_grant k body⟩
    rw [State.raise_wait, State.setWaitOrder_wait, State.setWait_wait, if_pos rfl]
  · obtain ⟨t, old, new⟩ := s.tickWaits_wait k w
    rw [State.endPassIfDone_wait, new, t.tickWait_of_other (by rw [old]; exact other), old]
  · rw [State.endPassIfDone_waits, s.tickWaits_order]
  · rw [State.endPassIfDone_of_pass (by rw [manager]; exact job), State.endPassIfDone_waits]
  · rw [State.endPassIfDone_of_other (by rw [manager]; exact other), manager]
  · rw [State.endPassIfDone_eq, manager]
  · rw [State.endPassIfDone_profile]
    exact (raises n).1
  · rw [State.endPassIfDone_profile]
    exact (raises n).2.2 b fun c may => by rw [may.1]; exact other.symm
  · rw [State.endPassIfDone_profile]
    exact raises.profile_of_none fun c ⟨_, w, q, d, body, last⟩ => absurd (none_ w q d body) (Nat.not_lt.mpr last)
  · have kept : ∀ {α : Type} (P : State → α), (∀ (t : State) x y, P { t with waits := x, profiles := y } = P t) →
        P (s.tickWaits k) = P s := fun P h => (congrArg P rest).trans (h s _ _)
    exact ⟨(State.endPassIfDone_ports _).trans (kept State.ports fun _ _ _ => rfl),
      (State.endPassIfDone_leases _).trans (kept State.leases fun _ _ _ => rfl),
      (State.endPassIfDone_guards _).trans (kept State.guards fun _ _ _ => rfl),
      (State.endPassIfDone_scrub _).trans (kept State.scrub fun _ _ _ => rfl),
      (State.endPassIfDone_timebase _).trans (kept State.timebase fun _ _ _ => rfl),
      (State.endPassIfDone_phases _).trans (kept State.phases fun _ _ _ => rfl),
      (State.endPassIfDone_memPort _).trans (kept State.memPort fun _ _ _ => rfl),
      (State.endPassIfDone_sram _).trans (kept State.sram fun _ _ _ => rfl)⟩

end Sys2Proof.Machine
end

section
/-! SUPPORT. What retirement makes of an entry and of the scrub queue, and one tick at the Lease Table (R100, R103, R107,
R108, R139 to R142). -/

namespace Sys2Proof.Machine

/-! ## Retirement -/

/-- What neither the scrub queue nor a chunk request decides, a join of the queue leaves. -/
theorem State.joinQueue_keeps {α : Type} (P : State → α) (scrub : ∀ s x, P (State.setScrub s x) = P s)
    (memPort : ∀ s m, P (State.setMemPort s m) = P s) (s : State) (i : EntryId) : P (s.joinQueue i) = P s := by
  have request : ∀ t : State, P t.requestChunk = P t := by
    intro t
    unfold State.requestChunk
    split
    · rfl
    · split
      · rfl
      · rw [memPort]
  by_cases idle : s.scrub.mode = .idle
  · rw [s.joinQueue_of_idle i idle, request, scrub]
  · rw [s.joinQueue_of_busy i idle, scrub]

/-- What neither an entry, a join of the scrub queue nor the re-examination flag decides, a retirement leaves. -/
theorem State.retire_keeps_of_join {α : Type} (P : State → α) (entry : ∀ s i e, P (State.setEntry s i e) = P s)
    (join : ∀ s i, P (State.joinQueue s i) = P s) (reexamine : ∀ s b, P (State.setReexamine s b) = P s) (s : State)
    (i : EntryId) : P (s.retire i) = P s := by
  have drained : ∀ (t : State) l, P (t.drained i l) = P t := by
    intro t l
    cases disposition : l.disposition with
    | keep => rw [t.drained_keep i disposition, State.freeEntry, reexamine, entry]
    | scrub => rw [t.drained_scrub i disposition, join]
  unfold State.retire
  split
  next o l x body =>
    dsimp only
    split
    · rw [entry]
    · rw [drained, entry]
  all_goals rfl

/-- What neither an entry, the scrub queue, a chunk request nor the re-examination flag decides, a retirement leaves. -/
theorem State.retire_keeps {α : Type} (P : State → α) (entry : ∀ s i e, P (State.setEntry s i e) = P s)
    (scrub : ∀ s x, P (State.setScrub s x) = P s) (memPort : ∀ s m, P (State.setMemPort s m) = P s)
    (reexamine : ∀ s b, P (State.setReexamine s b) = P s) (s : State) (i : EntryId) : P (s.retire i) = P s :=
  State.retire_keeps_of_join P entry (State.joinQueue_keeps P scrub memPort) reexamine s i

/-- A join leaves a pending hold and the count of chunks since SCRUB-GO. -/
theorem State.joinQueue_hold (s : State) (i : EntryId) :
    (s.joinQueue i).scrub.holdPending = s.scrub.holdPending ∧ (s.joinQueue i).scrub.sinceGo = s.scrub.sinceGo := by
  by_cases idle : s.scrub.mode = .idle
  · rw [s.joinQueue_of_idle i idle, State.requestChunk_scrub]
    exact ⟨rfl, rfl⟩
  · rw [s.joinQueue_of_busy i idle]
    exact ⟨rfl, rfl⟩

theorem State.retire_hold (s : State) (i : EntryId) :
    (s.retire i).scrub.holdPending = s.scrub.holdPending ∧ (s.retire i).scrub.sinceGo = s.scrub.sinceGo :=
  ⟨State.retire_keeps_of_join (fun t => t.scrub.holdPending) (fun _ _ _ => rfl) (fun t i => (t.joinQueue_hold i).1)
      (fun _ _ => rfl) s i,
    State.retire_keeps_of_join (fun t => t.scrub.sinceGo) (fun _ _ _ => rfl) (fun t i => (t.joinQueue_hold i).2)
      (fun _ _ => rfl) s i⟩

/-- What an ACTIVE entry becomes when it retires (R100, R107, R108). -/
def EntryBody.retired (f : AgentId → Range → Bool) (o : AgentId) (l : Lease) : EntryBody :=
  if f o l.range = true then .retiring (some o) l true
  else if l.disposition = .keep then .free
  else .retiring (some o) l false

/-- An ACTIVE entry joins the scrub queue when it retires (R108). -/
def EntryBody.joinsAtRetirement (f : AgentId → Range → Bool) : EntryBody → Bool
  | .active o l _ => l.disposition == .scrub && !f o l.range
  | .free | .retiring .. | .faulted _ => false

/-- An ACTIVE entry becomes FREE when it retires (R108). -/
def EntryBody.freedAtRetirement (f : AgentId → Range → Bool) : EntryBody → Bool
  | .active o l _ => l.disposition == .keep && !f o l.range
  | .free | .retiring .. | .faulted _ => false

section
variable (s : State)

theorem State.retire_entry_self {i : EntryId} {g : BitVec 8} {o : AgentId} {l : Lease} {x : Option AgentId}
    (h : s.entry i = { gen := g, body := .active o l x }) :
    (s.retire i).entry i = { gen := g, body := .retired s.inFlight o l } := by
  unfold EntryBody.retired
  by_cases flight : s.inFlight o l.range = true
  · rw [s.retire_draining h flight, if_pos flight, State.setEntry_entry, if_pos rfl]
  · rw [if_neg flight]
    have still := Bool.eq_false_iff.mpr flight
    cases disposition : l.disposition with
    | keep => rw [s.retire_keep h still disposition, if_pos rfl, State.setReexamine_entry, State.setEntry_entry, if_pos rfl]
    | scrub =>
      rw [s.retire_scrub h still disposition, if_neg (by decide), State.joinQueue_entry, State.setEntry_entry, if_pos rfl]

theorem State.retire_queue (i : EntryId) :
    (s.retire i).scrub.queue =
      s.scrub.queue ++ if (s.entry i).body.joinsAtRetirement s.inFlight then [i] else [] := by
  by_cases active : ∃ o l x, (s.entry i).body = .active o l x
  · obtain ⟨o, l, x, body⟩ := active
    have entry : s.entry i = { gen := (s.entry i).gen, body := .active o l x } := by rw [← body]
    rw [body]
    by_cases flight : s.inFlight o l.range = true
    · rw [s.retire_draining entry flight]
      simp [EntryBody.joinsAtRetirement, flight]
    · have still := Bool.eq_false_iff.mpr flight
      cases disposition : l.disposition with
      | keep =>
        rw [s.retire_keep entry still disposition]
        simp [EntryBody.joinsAtRetirement, disposition]
      | scrub =>
        rw [s.retire_scrub entry still disposition, State.joinQueue_queue]
        simp [EntryBody.joinsAtRetirement, disposition, still]
  · rw [s.retire_of_notActive fun o l x body => active ⟨o, l, x, body⟩]
    cases body : (s.entry i).body with
    | active o l x => exact absurd ⟨o, l, x, body⟩ active
    | _ => simp [EntryBody.joinsAtRetirement]

/-- A retirement sets the re-examination flag where it frees the entry, and leaves it otherwise (R6). -/
theorem State.retire_reexamine (i : EntryId) :
    (s.retire i).manager.reexamine =
      (s.manager.reexamine || (s.entry i).body.freedAtRetirement s.inFlight) := by
  by_cases active : ∃ o l x, (s.entry i).body = .active o l x
  · obtain ⟨o, l, x, body⟩ := active
    have entry : s.entry i = { gen := (s.entry i).gen, body := .active o l x } := by rw [← body]
    rw [body]
    by_cases flight : s.inFlight o l.range = true
    · rw [s.retire_draining entry flight]
      simp [EntryBody.freedAtRetirement, flight]
    · have still := Bool.eq_false_iff.mpr flight
      cases disposition : l.disposition with
      | keep =>
        rw [s.retire_keep entry still disposition]
        simp [EntryBody.freedAtRetirement, disposition, still]
      | scrub =>
        rw [s.retire_scrub entry still disposition, State.joinQueue_manager]
        simp [EntryBody.freedAtRetirement, disposition]
  · rw [s.retire_of_notActive fun o l x body => active ⟨o, l, x, body⟩]
    cases body : (s.entry i).body with
    | active o l x => exact absurd ⟨o, l, x, body⟩ active
    | _ => simp [EntryBody.freedAtRetirement]

theorem State.inFlight_of_ports {s t : State} (h : t.ports = s.ports) : t.inFlight = s.inFlight := by
  funext n r
  simp only [State.inFlight, State.port, h]

end

end Sys2Proof.Machine
end

section
/-! SUPPORT. One tick at the Lease Table (R103, R139 to R142). -/

namespace Sys2Proof.Machine

/-! ## One tick at one entry -/

/-- The state in which a tick has counted entry i down to 0, before its retirement. -/
def State.countOut (s : State) (i : EntryId) (o : AgentId) (l : Lease) (x : Option AgentId) (m : Timed) (c : Countdown) :
    State := s.setActive i { owner := o, lease := l.withCount m c 0 c.warned, offer := x }

section
variable (s : State)

theorem State.tickEntry_of_uncounted {i : EntryId}
    (h : ∀ o l x m c, (s.entry i).body = .active o l x → l.life ≠ .timed m c) : s.tickEntry i = s := by
  unfold State.tickEntry
  split
  next o l x body =>
    split
    next => rfl
    next m c life => exact absurd life (h o l x m c body)
  all_goals rfl

variable {i : EntryId} {o : AgentId} {l : Lease} {x : Option AgentId} {m : Timed} {c : Countdown}

theorem State.tickEntry_expires (body : (s.entry i).body = .active o l x) (life : l.life = .timed m c)
    (last : c.remaining ≤ 1) : s.tickEntry i = ((s.countOut i o l x m c).retire i).raise .lapse o := by
  have zero : c.remaining - 1 = 0 := by omega
  simp only [State.tickEntry, body, life, if_pos zero, State.countOut]

theorem State.tickEntry_warns (body : (s.entry i).body = .active o l x) (life : l.life = .timed m c)
    (more : 1 < c.remaining) (warning : c.remaining - 1 = c.warn) :
    s.tickEntry i =
      (s.setActive i { owner := o, lease := l.withCount m c (c.remaining - 1) true, offer := x }).raise .warn o := by
  have positive : c.remaining - 1 ≠ 0 := by omega
  simp only [State.tickEntry, body, life, if_neg positive, if_pos warning]

theorem State.tickEntry_counts (body : (s.entry i).body = .active o l x) (life : l.life = .timed m c)
    (more : 1 < c.remaining) (silent : c.remaining - 1 ≠ c.warn) :
    s.tickEntry i =
      s.setActive i { owner := o, lease := l.withCount m c (c.remaining - 1) c.warned, offer := x } := by
  have positive : c.remaining - 1 ≠ 0 := by omega
  simp only [State.tickEntry, body, life, if_neg positive, if_neg silent]

end

/-- What one tick does at an entry: nothing; one less of its Remaining, with or without a warning; or its end. -/
inductive State.TickCase (s : State) (i : EntryId) : Prop where
  | uncounted (h : ∀ o l x m c, (s.entry i).body = .active o l x → l.life ≠ .timed m c)
  | counts (o : AgentId) (l : Lease) (x : Option AgentId) (m : Timed) (c : Countdown)
      (body : (s.entry i).body = .active o l x) (life : l.life = .timed m c) (more : 1 < c.remaining)
  | expires (o : AgentId) (l : Lease) (x : Option AgentId) (m : Timed) (c : Countdown)
      (body : (s.entry i).body = .active o l x) (life : l.life = .timed m c) (last : c.remaining ≤ 1)

section
variable (s : State)

theorem State.tickCase (i : EntryId) : s.TickCase i := by
  by_cases counted : ∃ o l x m c, (s.entry i).body = .active o l x ∧ l.life = .timed m c
  · obtain ⟨o, l, x, m, c, body, life⟩ := counted
    by_cases last : c.remaining ≤ 1
    · exact .expires o l x m c body life last
    · exact .counts o l x m c body life (Nat.not_le.mp last)
  · exact .uncounted fun o l x m c body life => counted ⟨o, l, x, m, c, body, life⟩

/-- What an entry, the scrub queue, a chunk request, the re-examination flag and the causes do not decide, a tick at an
entry leaves. -/
theorem State.tickEntry_keeps {α : Type} (P : State → α) (entry : ∀ s i e, P (State.setEntry s i e) = P s)
    (scrub : ∀ s x, P (State.setScrub s x) = P s) (memPort : ∀ s m, P (State.setMemPort s m) = P s)
    (reexamine : ∀ s b, P (State.setReexamine s b) = P s) (profile : ∀ s n p, P (State.setProfile s n p) = P s)
    (i : EntryId) : P (s.tickEntry i) = P s := by
  have active : ∀ v, P (s.setActive i v) = P s := fun v => entry s i _
  have raised : ∀ (t : State) c n, P (t.raise c n) = P t := fun t c n => profile t n _
  cases s.tickCase i with
  | uncounted h => rw [s.tickEntry_of_uncounted h]
  | counts o l x m c body life more =>
    by_cases warning : c.remaining - 1 = c.warn
    · rw [s.tickEntry_warns body life more warning, raised, active]
    · rw [s.tickEntry_counts body life more warning, active]
  | expires o l x m c body life last =>
    rw [s.tickEntry_expires body life last, raised, State.retire_keeps P entry scrub memPort reexamine, State.countOut,
      active]

theorem State.tickEntry_entry_ne (i j : EntryId) (h : j ≠ i) : (s.tickEntry i).entry j = s.entry j := by
  have active : ∀ v, (s.setActive i v).entry j = s.entry j := fun v => by
    rw [State.setActive, State.setEntry_entry, if_neg h.symm]
  cases s.tickCase i with
  | uncounted h => rw [s.tickEntry_of_uncounted h]
  | counts o l x m c body life more =>
    by_cases warning : c.remaining - 1 = c.warn
    · rw [s.tickEntry_warns body life more warning, State.raise_entry, active]
    · rw [s.tickEntry_counts body life more warning, active]
  | expires o l x m c body life last =>
    rw [s.tickEntry_expires body life last, State.raise_entry, State.retire_entry_ne _ h, State.countOut, active]

theorem State.countOut_entry (i : EntryId) (o : AgentId) (l : Lease) (x : Option AgentId) (m : Timed) (c : Countdown) :
    (s.countOut i o l x m c).entry i =
      { gen := (s.entry i).gen, body := .active o (l.withCount m c 0 c.warned) x } := by
  rw [State.countOut, State.setActive, State.setEntry_entry, if_pos rfl]

theorem State.countOut_inFlight (i : EntryId) (o : AgentId) (l : Lease) (x : Option AgentId) (m : Timed)
    (c : Countdown) : (s.countOut i o l x m c).inFlight = s.inFlight := State.inFlight_of_ports rfl

/-- The entry's tick brings its Remaining to 0, and it joins the scrub queue. -/
def EntryBody.joinsAtTick (f : AgentId → Range → Bool) (b : EntryBody) : Bool := b.expiresNext && b.joinsAtRetirement f

theorem EntryBody.expiresNext_active {o : AgentId} {l : Lease} {x : Option AgentId} {m : Timed} {c : Countdown}
    (life : l.life = .timed m c) : (EntryBody.active o l x).expiresNext = decide (c.remaining ≤ 1) := by
  simp only [EntryBody.expiresNext, life]
  rw [Bool.eq_iff_iff, beq_iff_eq, decide_eq_true_iff]
  omega

theorem EntryBody.expiresNext_of_uncounted {b : EntryBody} (h : ∀ o l x m c, b = .active o l x → l.life ≠ .timed m c) :
    b.expiresNext = false := by
  cases b with
  | active o l x =>
    simp only [EntryBody.expiresNext]
    split
    next m c life => exact absurd life (h o l x m c rfl)
    next => rfl
  | _ => rfl

theorem State.tickEntry_queue (i : EntryId) :
    (s.tickEntry i).scrub.queue =
      s.scrub.queue ++ if (s.entry i).body.joinsAtTick s.inFlight then [i] else [] := by
  cases s.tickCase i with
  | uncounted h =>
    rw [s.tickEntry_of_uncounted h, EntryBody.joinsAtTick, EntryBody.expiresNext_of_uncounted h]
    simp
  | counts o l x m c body life more =>
    have stays : (s.tickEntry i).scrub = s.scrub := by
      by_cases warning : c.remaining - 1 = c.warn
      · rw [s.tickEntry_warns body life more warning]; rfl
      · rw [s.tickEntry_counts body life more warning]; rfl
    rw [stays, body, EntryBody.joinsAtTick, EntryBody.expiresNext_active life, decide_eq_false (Nat.not_le.mpr more)]
    simp
  | expires o l x m c body life last =>
    have joins : ((s.countOut i o l x m c).entry i).body.joinsAtRetirement s.inFlight =
        (s.entry i).body.joinsAtTick s.inFlight := by
      rw [body, EntryBody.joinsAtTick, EntryBody.expiresNext_active life, decide_eq_true last, Bool.true_and,
        State.countOut_entry]
      rfl
    rw [s.tickEntry_expires body life last, State.raise_scrub, State.retire_queue, State.countOut_inFlight, joins]
    rfl

theorem State.tickEntry_reexamine (i : EntryId) :
    (s.tickEntry i).manager.reexamine = (s.manager.reexamine ||
      ((s.entry i).body.expiresNext && (s.entry i).body.freedAtRetirement s.inFlight)) := by
  cases s.tickCase i with
  | uncounted h =>
    rw [s.tickEntry_of_uncounted h, EntryBody.expiresNext_of_uncounted h]
    simp
  | counts o l x m c body life more =>
    have stays : (s.tickEntry i).manager = s.manager := by
      by_cases warning : c.remaining - 1 = c.warn
      · rw [s.tickEntry_warns body life more warning]; rfl
      · rw [s.tickEntry_counts body life more warning]; rfl
    rw [stays, body, EntryBody.expiresNext_active life, decide_eq_false (Nat.not_le.mpr more)]
    simp
  | expires o l x m c body life last =>
    have frees : ((s.countOut i o l x m c).entry i).body.freedAtRetirement s.inFlight =
        ((s.entry i).body.expiresNext && (s.entry i).body.freedAtRetirement s.inFlight) := by
      rw [body, EntryBody.expiresNext_active life, decide_eq_true last, Bool.true_and, State.countOut_entry]
      rfl
    rw [s.tickEntry_expires body life last, State.raise_manager, State.retire_reexamine, State.countOut_inFlight, frees]
    rfl

/-- WARN and LAPSE are raised at the owners of the entries that a tick warns and brings to their end. -/
theorem State.tickEntry_raises_owner (i : EntryId) {A : AgentId → Cause → Prop}
    (warns : ∀ o l x m c, (s.entry i).body = .active o l x → l.life = .timed m c → 1 < c.remaining →
      c.remaining - 1 = c.warn → A o .warn)
    (lapses : ∀ o l x m c, (s.entry i).body = .active o l x → l.life = .timed m c → c.remaining ≤ 1 → A o .lapse) :
    s.RaisesOnly A (s.tickEntry i) := by
  have active : ∀ v, s.RaisesOnly A (s.setActive i v) := fun v => .of_profiles fun _ => rfl
  cases s.tickCase i with
  | uncounted h => rw [s.tickEntry_of_uncounted h]; exact .of_profiles fun _ => rfl
  | counts o l x m c body life more =>
    by_cases warning : c.remaining - 1 = c.warn
    · rw [s.tickEntry_warns body life more warning]
      exact (active _).trans (.raise (warns o l x m c body life more warning))
    · rw [s.tickEntry_counts body life more warning]
      exact active _
  | expires o l x m c body life last =>
    have profiles : ((s.countOut i o l x m c).retire i).profiles = s.profiles := by
      rw [State.retire_profiles]; rfl
    have retired : s.RaisesOnly A ((s.countOut i o l x m c).retire i) := .of_profiles fun n => by
      rw [State.profile, State.profile, profiles]
    rw [s.tickEntry_expires body life last]
    exact retired.trans (.raise (lapses o l x m c body life last))

end

/-! ## The tick's walk over the entries -/

/-- The tick at the Lease Table, with k ticks due after it. -/
def State.tickEntries (s : State) (k : Nat) : State :=
  State.forEntries State.tickEntry { s with leases := { s.leases with ticksDue := k } }

theorem State.leaseTick_of_due {s : State} {k : Nat} (due : s.leases.ticksDue = k + 1) :
    s.leaseTick = s.tickEntries k := by
  simp only [State.leaseTick, due]
  rfl

section
variable (s : State) (k : Nat)

theorem State.tickEntries_keeps {α : Type} (P : State → α) (entry : ∀ s i e, P (State.setEntry s i e) = P s)
    (scrub : ∀ s x, P (State.setScrub s x) = P s) (memPort : ∀ s m, P (State.setMemPort s m) = P s)
    (reexamine : ∀ s b, P (State.setReexamine s b) = P s) (profile : ∀ s n p, P (State.setProfile s n p) = P s) :
    P (s.tickEntries k) = P { s with leases := { s.leases with ticksDue := k } } := by
  rw [State.tickEntries]
  exact State.forEntries_keeps P (fun t i => t.tickEntry_keeps P entry scrub memPort reexamine profile i) _

theorem State.tickEntries_entry (i : EntryId) :
    ∃ t : State, t.inFlight = s.inFlight ∧ t.entry i = s.entry i ∧
      (s.tickEntries k).entry i = (t.tickEntry i).entry i := by
  have entry : State.entry { s with leases := { s.leases with ticksDue := k } } i = s.entry i := rfl
  have flight : State.inFlight { s with leases := { s.leases with ticksDue := k } } = s.inFlight :=
    State.inFlight_of_ports rfl
  rw [State.tickEntries, ← entry, ← flight]
  exact State.forEntries_entry State.inFlight (fun t i => State.inFlight_of_ports (t.tickEntry_ports i))
    (fun t i j ne => t.tickEntry_entry_ne i j ne) _ i

theorem State.tickEntries_queue :
    (s.tickEntries k).scrub.queue =
      s.scrub.queue ++ allEntries.filter fun i => (s.entry i).body.joinsAtTick s.inFlight := by
  have flight : State.inFlight { s with leases := { s.leases with ticksDue := k } } = s.inFlight :=
    State.inFlight_of_ports rfl
  rw [State.tickEntries, State.forEntries_queue State.inFlight
    (fun t i => State.inFlight_of_ports (t.tickEntry_ports i)) (fun t i j ne => t.tickEntry_entry_ne i j ne)
    (fun f e => e.body.joinsAtTick f) (fun t i => t.tickEntry_queue i), flight]
  rfl

/-- What the walk keeps, where it is kept at entries, and with the accesses in flight, that stand as at its begin. -/
theorem State.tickEntries_invariant {I : State → Prop}
    (visit : ∀ (t : State) i, t.entry i = s.entry i → t.inFlight = s.inFlight → I t → I (t.tickEntry i))
    (begin_ : I { s with leases := { s.leases with ticksDue := k } }) : I (s.tickEntries k) := by
  have both : (s.tickEntries k).inFlight = s.inFlight ∧ I (s.tickEntries k) := by
    rw [State.tickEntries]
    refine foldl_visits (get := State.entry) (f := State.tickEntry) (fun t i j ne => t.tickEntry_entry_ne i j ne)
      (I := fun t => t.inFlight = s.inFlight ∧ I t) s (fun t i same ⟨flight, inv⟩ => ?_) allEntries allEntries_nodup _
      (fun _ _ => rfl) ⟨State.inFlight_of_ports rfl, begin_⟩
    exact ⟨(State.inFlight_of_ports (t.tickEntry_ports i)).trans flight, visit t i same flight inv⟩
  exact both.2

/-- What the visit of an entry establishes, and every visit keeps, the walk establishes. -/
theorem State.tickEntries_establishes {Q : State → Prop} (stays : ∀ (t : State) i, Q t → Q (t.tickEntry i)) (i : EntryId)
    (visit : ∀ t : State, t.entry i = s.entry i → t.inFlight = s.inFlight → Q (t.tickEntry i)) :
    Q (s.tickEntries k) := by
  rw [State.tickEntries]
  exact foldl_establishes (get := State.entry) (f := State.tickEntry) (I := fun t => t.inFlight = s.inFlight)
    (fun t i j ne => t.tickEntry_entry_ne i j ne)
    (fun t i flight => (State.inFlight_of_ports (t.tickEntry_ports i)).trans flight) stays allEntries_nodup
    (mem_allEntries i) (State.inFlight_of_ports rfl) visit

end

end Sys2Proof.Machine
end

section
/-! SUPPORT. R139, R140, R142: the claim of a tick at the Lease Table, as it is stated. -/

namespace Sys2Proof.Machine

section
variable (s : State) (k : Nat) {i : EntryId} {g : BitVec 8} {o : AgentId} {l : Lease} {x : Option AgentId} {m : Timed}
  {c : Countdown}

/-- An entry whose countdown goes on, after the tick (R139, R140). -/
theorem State.tickEntries_entry_counts (entry : s.entry i = { gen := g, body := .active o l x })
    (life : l.life = .timed m c) (more : 1 < c.remaining) :
    (s.tickEntries k).entry i =
      { gen := g
        body := .active o
          { l with
            life := .timed m
              { c with
                remaining := c.remaining - 1
                warned := if c.remaining - 1 = c.warn then true else c.warned } } x } := by
  obtain ⟨t, -, old, new⟩ := s.tickEntries_entry k i
  have here : t.entry i = { gen := g, body := .active o l x } := old.trans entry
  have body : (t.entry i).body = .active o l x := by rw [here]
  rw [new]
  by_cases warning : c.remaining - 1 = c.warn
  · rw [t.tickEntry_warns body life more warning, State.raise_entry, State.setActive, State.setEntry_entry, if_pos rfl,
      here, if_pos warning]
    rfl
  · rw [t.tickEntry_counts body life more warning, State.setActive, State.setEntry_entry, if_pos rfl, here,
      if_neg warning]
    rfl

/-- An entry whose countdown ends, after the tick (R142). -/
theorem State.tickEntries_entry_expires (entry : s.entry i = { gen := g, body := .active o l x })
    (life : l.life = .timed m c) (last : c.remaining ≤ 1) :
    (s.tickEntries k).entry i =
      { gen := g, body := .retired s.inFlight o { l with life := .timed m { c with remaining := 0 } } } := by
  obtain ⟨t, flight, old, new⟩ := s.tickEntries_entry k i
  have here : t.entry i = { gen := g, body := .active o l x } := old.trans entry
  have body : (t.entry i).body = .active o l x := by rw [here]
  have counted := t.countOut_entry i o l x m c
  rw [new, t.tickEntry_expires body life last, State.raise_entry, State.retire_entry_self _ counted,
    State.countOut_inFlight, flight, here]
  rfl

theorem State.tickEntries_entry_uncounted
    (h : ∀ o l x m c, (s.entry i).body = .active o l x → l.life ≠ .timed m c) :
    (s.tickEntries k).entry i = s.entry i := by
  obtain ⟨t, -, old, new⟩ := s.tickEntries_entry k i
  rw [new, t.tickEntry_of_uncounted (by rw [old]; exact h), old]

/-- What WARN and LAPSE say of agent n (R140, R142). -/
def State.TickRaises (s : State) (n : AgentId) (cause : Cause) : Prop :=
  (cause = .warn ∧ ∃ i l x m c, (s.entry i).body = .active n l x ∧ l.life = .timed m c ∧ 1 < c.remaining ∧
      c.remaining - 1 = c.warn) ∨
    (cause = .lapse ∧ ∃ i l x m c, (s.entry i).body = .active n l x ∧ l.life = .timed m c ∧ c.remaining ≤ 1)

theorem State.tickEntries_raises : s.RaisesOnly s.TickRaises (s.tickEntries k) := by
  refine s.tickEntries_invariant k (I := fun t => s.RaisesOnly s.TickRaises t) (fun t i same _ raises => ?_)
    (.of_profiles fun _ => rfl)
  refine raises.trans (t.tickEntry_raises_owner i (fun o l x m c body life more warning => ?_)
    fun o l x m c body life last => ?_)
  · exact .inl ⟨rfl, i, l, x, m, c, by rw [← same]; exact body, life, more, warning⟩
  · exact .inr ⟨rfl, i, l, x, m, c, by rw [← same]; exact body, life, last⟩

/-- A cause once set stays set through the walk. -/
theorem State.tickEntry_isIn (t : State) (j : EntryId) {cause : Cause} {n : AgentId}
    (h : cause.isIn (t.profile n).status = true) : cause.isIn ((t.tickEntry j).profile n).status = true :=
  (t.tickEntry_raises_owner j (A := fun _ _ => True) (fun _ _ _ _ _ _ _ _ _ => trivial)
    fun _ _ _ _ _ _ _ _ => trivial).isIn h

theorem State.tickEntries_warn (body : (s.entry i).body = .active o l x) (life : l.life = .timed m c)
    (more : 1 < c.remaining) (warning : c.remaining - 1 = c.warn) :
    Cause.warn.isIn ((s.tickEntries k).profile o).status = true := by
  refine s.tickEntries_establishes k (Q := fun t => Cause.warn.isIn (t.profile o).status = true)
    (fun t j => t.tickEntry_isIn j) i fun t same _ => ?_
  rw [t.tickEntry_warns (by rw [same]; exact body) life more warning]
  exact State.raise_isIn _ .warn o

theorem State.tickEntries_lapse (body : (s.entry i).body = .active o l x) (life : l.life = .timed m c)
    (last : c.remaining ≤ 1) : Cause.lapse.isIn ((s.tickEntries k).profile o).status = true := by
  refine s.tickEntries_establishes k (Q := fun t => Cause.lapse.isIn (t.profile o).status = true)
    (fun t j => t.tickEntry_isIn j) i fun t same _ => ?_
  rw [t.tickEntry_expires (by rw [same]; exact body) life last]
  exact State.raise_isIn _ .lapse o

/-- The re-examination flag is set where an expired KEEP entry becomes FREE (R6). -/
theorem State.tickEntries_reexamine (body : (s.entry i).body = .active o l x) (life : l.life = .timed m c)
    (last : c.remaining ≤ 1) (keep : l.disposition = .keep) (still : s.inFlight o l.range = false) :
    (s.tickEntries k).manager.reexamine = true := by
  refine s.tickEntries_establishes k (Q := fun t => t.manager.reexamine = true) (fun t j set => ?_) i
    fun t same flight => ?_
  · rw [t.tickEntry_reexamine, set, Bool.true_or]
  · rw [t.tickEntry_reexamine, same, body, EntryBody.expiresNext_active life, decide_eq_true last, flight]
    simp [EntryBody.freedAtRetirement, keep, still]

theorem State.tickEntries_reexamine_of_none
    (h : ∀ i o l x m c, (s.entry i).body = .active o l x → l.life = .timed m c → c.remaining ≤ 1 →
      l.disposition = .keep → s.inFlight o l.range = true) :
    (s.tickEntries k).manager.reexamine = s.manager.reexamine := by
  refine s.tickEntries_invariant k (I := fun t => t.manager.reexamine = s.manager.reexamine)
    (fun t i same flight stands => ?_) rfl
  have frees : ((s.entry i).body.expiresNext && (s.entry i).body.freedAtRetirement s.inFlight) = false := by
    by_cases counted : ∃ o l x m c, (s.entry i).body = .active o l x ∧ l.life = .timed m c
    · obtain ⟨o, l, x, m, c, body, life⟩ := counted
      rw [body, EntryBody.expiresNext_active life]
      refine Bool.eq_false_iff.mpr fun freed => ?_
      simp only [EntryBody.freedAtRetirement, Bool.and_eq_true, decide_eq_true_iff, beq_iff_eq, Bool.not_eq_true'] at freed
      obtain ⟨last, keep, still⟩ := freed
      rw [h i o l x m c body life last keep] at still
      cases still
    · rw [EntryBody.expiresNext_of_uncounted fun o l x m c body life => counted ⟨o, l, x, m, c, body, life⟩,
        Bool.false_and]
  rw [t.tickEntry_reexamine, same, flight, frees, Bool.or_false, stands]

theorem EntryBody.joinsAtTick_iff {f : AgentId → Range → Bool} {b : EntryBody}
    (counts : ∀ o l x m c, b = .active o l x → l.life = .timed m c → 1 ≤ c.remaining) :
    b.joinsAtTick f = true ↔ ∃ o l x m c, b = .active o l x ∧ l.life = .timed m c ∧ c.remaining = 1 ∧
      l.disposition = .scrub ∧ f o l.range = false := by
  constructor
  · intro joins
    obtain ⟨expires, joins⟩ := Bool.and_eq_true_iff.mp joins
    by_cases counted : ∃ o l x m c, b = .active o l x ∧ l.life = .timed m c
    · obtain ⟨o, l, x, m, c, rfl, life⟩ := counted
      rw [EntryBody.expiresNext_active life, decide_eq_true_iff] at expires
      simp only [EntryBody.joinsAtRetirement, Bool.and_eq_true, beq_iff_eq, Bool.not_eq_true'] at joins
      exact ⟨o, l, x, m, c, rfl, life, Nat.le_antisymm expires (counts o l x m c rfl life), joins⟩
    · rw [EntryBody.expiresNext_of_uncounted fun o l x m c body life => counted ⟨o, l, x, m, c, body, life⟩] at expires
      cases expires
  · rintro ⟨o, l, x, m, c, rfl, life, last, scrub, still⟩
    rw [EntryBody.joinsAtTick, EntryBody.expiresNext_active life, last]
    simp [EntryBody.joinsAtRetirement, scrub, still]

/-- The Lease Table, the profiles, the Scrub Engine, the Memory Port and the re-examination flag apart, the tick leaves
everything. -/
theorem State.tickEntries_rest :
    s.tickEntries k =
      { s with
        leases := (s.tickEntries k).leases
        profiles := (s.tickEntries k).profiles
        scrub := (s.tickEntries k).scrub
        memPort := (s.tickEntries k).memPort
        manager := { s.manager with reexamine := (s.tickEntries k).manager.reexamine } } := by
  generalize e : s.tickEntries k = t
  have rest : ({ t with
      leases := s.leases
      profiles := s.profiles
      scrub := s.scrub
      memPort := s.memPort
      manager := { t.manager with reexamine := s.manager.reexamine } } : State) = s := by
    rw [← e]
    exact s.tickEntries_keeps k
      (fun u => { u with
        leases := s.leases
        profiles := s.profiles
        scrub := s.scrub
        memPort := s.memPort
        manager := { u.manager with reexamine := s.manager.reexamine } })
      (fun _ _ _ => rfl) (fun _ _ => rfl) (fun _ _ => rfl) (fun _ _ => rfl) fun _ _ _ => rfl
  have restored := congrArg (fun u : State => ({ u with
    leases := t.leases
    profiles := t.profiles
    scrub := t.scrub
    memPort := t.memPort
    manager := { u.manager with reexamine := t.manager.reexamine } } : State)) rest
  exact restored

end

/-- Settles O48: one walk over the entries, each visit at its own entry. -/
theorem tickCountsLeasesDown : Obligations.TickCountsLeasesDown := by
  intro s k due
  have tick := State.leaseTick_of_due due
  have raises := s.tickEntries_raises k
  have leases : ∀ {α : Type} (P : LeaseTable → α), (∀ t e, P { t with entries := e } = P t) →
      P (s.tickEntries k).leases = P { s.leases with ticksDue := k } := fun P entries =>
    s.tickEntries_keeps k (fun t => P t.leases) (fun _ _ _ => entries _ _) (fun _ _ => rfl) (fun _ _ => rfl)
      (fun _ _ => rfl) fun _ _ _ => rfl
  have others := s.tickEntries_rest k
  refine ⟨s.tickEntries k, congrArg Host.Outcome.next tick, fun i o l m c x body life last => ?_,
    leases (fun t => t.ticksDue) fun _ _ => rfl, leases (fun t => t.inForce) fun _ _ => rfl,
    leases (fun t => t.sequencerClaims) fun _ _ => rfl, fun i g o l x m c entry life => ⟨fun more => ⟨fun warning =>
      s.tickEntries_warn k (by rw [entry]) life more warning, s.tickEntries_entry_counts k entry life more⟩,
      fun last => ⟨s.tickEntries_lapse k (by rw [entry]) life (Nat.le_of_eq last), fun r hr => ?_⟩⟩,
    fun i other => s.tickEntries_entry_uncounted k other, fun counts => ?_, fun n => ?_,
    fun i o l x m c body life last => s.tickEntries_reexamine k body life (Nat.le_of_eq last),
    s.tickEntries_reexamine_of_none k, ?_⟩
  · have any : (allEntries.any fun i => (s.entry i).body.expiresNext) = true :=
      List.any_eq_true.mpr ⟨i, mem_allEntries i, by
        rw [body, EntryBody.expiresNext_active life, last]; rfl⟩
    rw [← tick]
    exact if_pos any
  · rw [hr]
    exact s.tickEntries_entry_expires k entry life (Nat.le_of_eq last)
  · refine ⟨_, s.tickEntries_queue k, allEntries_rising.filter _, fun i => ?_⟩
    rw [List.mem_filter, EntryBody.joinsAtTick_iff (counts i)]
    exact and_iff_right (mem_allEntries i)
  · obtain ⟨same, -, bits⟩ := raises n
    refine ⟨same, fun b notWarn notLapse => bits b fun c may => ?_, fun silent => bits 2 fun c may => ?_,
      fun running => bits 3 fun c may => ?_⟩
    · rcases may with ⟨rfl, -⟩ | ⟨rfl, -⟩
      · exact notWarn.symm
      · exact notLapse.symm
    · rcases may with ⟨rfl, i, l, x, m, c, body, life, more, warning⟩ | ⟨rfl, -⟩
      · exact absurd warning (silent i l x m c body life more)
      · decide
    · rcases may with ⟨rfl, -⟩ | ⟨rfl, i, l, x, m, c, body, life, last⟩
      · decide
      · exact absurd (running i l x m c body life) (Nat.not_lt.mpr last)
  · refine ⟨?_, ?_, ?_, ?_, ?_, ?_, ?_⟩
    all_goals rw [others]

end Sys2Proof.Machine
end

section
/-! SUPPORT. The completion of a teardown (R86, R104, R131, R169, R176). -/

namespace Sys2Proof.Machine

/-! ## Items 1 and 2: the entries -/

theorem EntryBody.activeOf_eq_some {b : EntryBody} {n : AgentId} :
    (b.activeOf n).isSome = true ↔ ∃ l x, b = .active n l x := by
  cases b with
  | active o l x =>
    simp only [EntryBody.activeOf]
    by_cases same : o = n
    · simp [same]
    · simp [same]
  | _ => simp [EntryBody.activeOf]

section
variable (s : State) (n : AgentId)

theorem State.teardownEntry_entry_ne (i j : EntryId) (h : j ≠ i) : (State.teardownEntry n s i).entry j = s.entry j := by
  unfold State.teardownEntry
  split
  · exact s.retire_entry_ne h
  · rfl

theorem State.teardownEntry_queue (i : EntryId) :
    (State.teardownEntry n s i).scrub.queue = s.scrub.queue ++
      if ((s.entry i).body.activeOf n).isSome && (s.entry i).body.joinsAtRetirement s.inFlight then [i] else [] := by
  unfold State.teardownEntry
  split
  next mine => rw [s.retire_queue i, mine, Bool.true_and]
  next other => simp [Bool.eq_false_iff.mpr other]

theorem State.teardownEntry_keeps {α : Type} (P : State → α) (retire : ∀ s i, P (State.retire s i) = P s) (i : EntryId) :
    P (State.teardownEntry n s i) = P s := by
  unfold State.teardownEntry
  split
  · exact retire s i
  · rfl

/-- An entry that is offered to n, at item 2. -/
theorem State.teardownOffer_of_offered {i : EntryId} {g : BitVec 8} {o : AgentId} {l : Lease}
    (h : s.entry i = { gen := g, body := .active o l (some n) }) :
    State.teardownOffer n s i = (s.setEntry i { gen := g, body := .active o l none }).raise .offerOut o := by
  simp only [State.teardownOffer, h, if_true, State.setActive]

theorem State.teardownOffer_of_other {i : EntryId} (h : ∀ o l, (s.entry i).body ≠ .active o l (some n)) :
    State.teardownOffer n s i = s := by
  unfold State.teardownOffer
  split
  next o l t body =>
    split
    next same => exact absurd (same ▸ body) (h o l)
    next => rfl
  all_goals rfl

theorem State.teardownOffer_cases (i : EntryId) :
    State.teardownOffer n s i = s ∨ ∃ g o l, s.entry i = { gen := g, body := .active o l (some n) } ∧
      State.teardownOffer n s i = (s.setEntry i { gen := g, body := .active o l none }).raise .offerOut o := by
  by_cases offered : ∃ o l, (s.entry i).body = .active o l (some n)
  · obtain ⟨o, l, body⟩ := offered
    have entry : s.entry i = { gen := (s.entry i).gen, body := .active o l (some n) } := by rw [← body]
    exact .inr ⟨_, o, l, entry, s.teardownOffer_of_offered n entry⟩
  · exact .inl (s.teardownOffer_of_other n fun o l body => offered ⟨o, l, body⟩)

theorem State.teardownOffer_entry_ne (i j : EntryId) (h : j ≠ i) : (State.teardownOffer n s i).entry j = s.entry j := by
  rcases s.teardownOffer_cases n i with e | ⟨g, o, l, -, e⟩
  · rw [e]
  · rw [e, State.raise_entry, State.setEntry_entry, if_neg h.symm]

theorem State.teardownOffer_keeps {α : Type} (P : State → α) (entry : ∀ s i e, P (State.setEntry s i e) = P s)
    (profile : ∀ s n p, P (State.setProfile s n p) = P s) (i : EntryId) : P (State.teardownOffer n s i) = P s := by
  rcases s.teardownOffer_cases n i with e | ⟨g, o, l, -, e⟩
  · rw [e]
  · rw [e, State.raise, profile, entry]

/-- OFFER_OUT is raised at the owner of an entry offered to n. -/
theorem State.teardownOffer_raises_owner (i : EntryId) {A : AgentId → Cause → Prop}
    (h : ∀ o l, (s.entry i).body = .active o l (some n) → A o .offerOut) : s.RaisesOnly A (State.teardownOffer n s i) := by
  have withdrawn : ∀ e, s.RaisesOnly A (s.setEntry i e) := fun _ => .of_profiles fun _ => rfl
  rcases s.teardownOffer_cases n i with e | ⟨g, o, l, entry, e⟩
  · rw [e]; exact .of_profiles fun _ => rfl
  · rw [e]
    exact (withdrawn _).trans (.raise (h o l (by rw [entry])))

/-- The state after item 1 of R176. -/
def State.teardownOwned : State := s.forEntries (State.teardownEntry n)

/-- The state after item 2 of R176. -/
def State.teardownOffered : State := (s.teardownOwned n).forEntries (State.teardownOffer n)

theorem State.teardownOwned_entry (i : EntryId) :
    ∃ t : State, t.inFlight = s.inFlight ∧ t.entry i = s.entry i ∧
      (s.teardownOwned n).entry i = (State.teardownEntry n t i).entry i :=
  State.forEntries_entry State.inFlight (fun t i => State.inFlight_of_ports (t.teardownEntry_ports n i))
    (fun t i j ne => t.teardownEntry_entry_ne n i j ne) s i

theorem State.teardownOwned_entry_owned {i : EntryId} {g : BitVec 8} {l : Lease} {x : Option AgentId}
    (h : s.entry i = { gen := g, body := .active n l x }) :
    (s.teardownOwned n).entry i = { gen := g, body := .retired s.inFlight n l } := by
  obtain ⟨t, flight, old, new⟩ := s.teardownOwned_entry n i
  have here : t.entry i = { gen := g, body := .active n l x } := old.trans h
  have mine : ((t.entry i).body.activeOf n).isSome = true := EntryBody.activeOf_eq_some.mpr ⟨l, x, by rw [here]⟩
  rw [new, State.teardownEntry, if_pos mine, t.retire_entry_self here, flight]

theorem State.teardownOwned_entry_other {i : EntryId} (h : ∀ l x, (s.entry i).body ≠ .active n l x) :
    (s.teardownOwned n).entry i = s.entry i := by
  obtain ⟨t, -, old, new⟩ := s.teardownOwned_entry n i
  have other : ¬((t.entry i).body.activeOf n).isSome = true := fun mine => by
    obtain ⟨l, x, body⟩ := EntryBody.activeOf_eq_some.mp mine
    exact h l x (by rw [← old]; exact body)
  rw [new, State.teardownEntry, if_neg other, old]

theorem EntryBody.retired_not_active {f : AgentId → Range → Bool} {o k : AgentId} {l m : Lease} {x : Option AgentId} :
    EntryBody.retired f o l ≠ .active k m x := by
  unfold EntryBody.retired
  split
  · exact fun e => by cases e
  · split <;> exact fun e => by cases e

/-- Only an entry that is offered to n before item 1 is so after it. -/
theorem State.teardownOwned_offered {i : EntryId} {k : AgentId} {l : Lease} {x : Option AgentId}
    (h : ((s.teardownOwned n).entry i).body = .active k l x) : (s.entry i).body = .active k l x ∧ k ≠ n := by
  by_cases mine : ∃ m y, (s.entry i).body = .active n m y
  · obtain ⟨m, y, body⟩ := mine
    have entry : s.entry i = { gen := (s.entry i).gen, body := .active n m y } := by rw [← body]
    rw [s.teardownOwned_entry_owned n entry] at h
    exact absurd h EntryBody.retired_not_active
  · have other : ∀ m y, (s.entry i).body ≠ .active n m y := fun m y body => mine ⟨m, y, body⟩
    rw [s.teardownOwned_entry_other n other] at h
    exact ⟨h, fun eq => other l x (eq ▸ h)⟩

theorem State.teardownOffered_entry (i : EntryId) :
    ∃ t : State, t.entry i = (s.teardownOwned n).entry i ∧
      (s.teardownOffered n).entry i = (State.teardownOffer n t i).entry i := by
  obtain ⟨t, -, old, new⟩ := State.forEntries_entry (fun _ => ()) (fun _ _ => rfl)
    (fun t i j ne => t.teardownOffer_entry_ne n i j ne) (s.teardownOwned n) i
  exact ⟨t, old, new⟩

theorem State.teardownOffered_entry_offered {i : EntryId} {g : BitVec 8} {o : AgentId} {l : Lease}
    (h : (s.teardownOwned n).entry i = { gen := g, body := .active o l (some n) }) :
    (s.teardownOffered n).entry i = { gen := g, body := .active o l none } := by
  obtain ⟨t, old, new⟩ := s.teardownOffered_entry n i
  rw [new, t.teardownOffer_of_offered n (old.trans h), State.raise_entry, State.setEntry_entry, if_pos rfl]

theorem State.teardownOffered_entry_other {i : EntryId}
    (h : ∀ o l, ((s.teardownOwned n).entry i).body ≠ .active o l (some n)) :
    (s.teardownOffered n).entry i = (s.teardownOwned n).entry i := by
  obtain ⟨t, old, new⟩ := s.teardownOffered_entry n i
  rw [new, t.teardownOffer_of_other n (by rw [old]; exact h), old]

theorem State.teardownOffered_queue :
    (s.teardownOffered n).scrub.queue = s.scrub.queue ++ allEntries.filter fun i =>
      ((s.entry i).body.activeOf n).isSome && (s.entry i).body.joinsAtRetirement s.inFlight := by
  have stays : ∀ (t : State) i, (State.teardownOffer n t i).scrub = t.scrub := fun t i =>
    t.teardownOffer_keeps n State.scrub (fun _ _ _ => rfl) (fun _ _ _ => rfl) i
  rw [State.teardownOffered, State.forEntries_keeps State.scrub stays, State.teardownOwned]
  exact State.forEntries_queue State.inFlight (fun t i => State.inFlight_of_ports (t.teardownEntry_ports n i))
    (fun t i j ne => t.teardownEntry_entry_ne n i j ne)
    (fun f e => (e.body.activeOf n).isSome && e.body.joinsAtRetirement f) (fun t i => t.teardownEntry_queue n i) s

/-- What a retirement, an entry and the causes do not decide, items 1 and 2 leave. -/
theorem State.teardownOffered_keeps {α : Type} (P : State → α) (retire : ∀ s i, P (State.retire s i) = P s)
    (entry : ∀ s i e, P (State.setEntry s i e) = P s) (profile : ∀ s n p, P (State.setProfile s n p) = P s) :
    P (s.teardownOffered n) = P s := by
  rw [State.teardownOffered, State.forEntries_keeps P fun t i => t.teardownOffer_keeps n P entry profile i,
    State.teardownOwned, State.forEntries_keeps P fun t i => t.teardownEntry_keeps n P retire i]

/-- The owners of the entries offered to n have OFFER_OUT raised, and no other profile changes (R131). -/
theorem State.teardownOffered_raises :
    s.RaisesOnly (fun k c => c = .offerOut ∧ ∃ i l, (s.entry i).body = .active k l (some n)) (s.teardownOffered n) := by
  have owned : (s.teardownOwned n).profiles = s.profiles := by
    rw [State.teardownOwned, State.forEntries_keeps State.profiles fun t i =>
      t.teardownEntry_keeps n State.profiles State.retire_profiles i]
  have begin_ : s.RaisesOnly (fun k c => c = .offerOut ∧ ∃ i l, (s.entry i).body = .active k l (some n))
      (s.teardownOwned n) := .of_profiles fun k => by rw [State.profile, State.profile, owned]
  rw [State.teardownOffered]
  refine foldl_visits (get := State.entry) (f := State.teardownOffer n)
    (fun t i j ne => t.teardownOffer_entry_ne n i j ne) (I := fun t => s.RaisesOnly _ t) (s.teardownOwned n)
    (fun t i same raises => raises.trans (t.teardownOffer_raises_owner n i fun o l body => ⟨rfl, i, l, ?_⟩))
    allEntries allEntries_nodup _ (fun _ _ => rfl) begin_
  rw [same] at body
  exact (s.teardownOwned_offered n body).1

theorem State.teardownOffered_offerOut {i : EntryId} {o : AgentId} {l : Lease}
    (h : ((s.teardownOwned n).entry i).body = .active o l (some n)) :
    Cause.offerOut.isIn ((s.teardownOffered n).profile o).status = true := by
  rw [State.teardownOffered]
  refine foldl_establishes (get := State.entry) (f := State.teardownOffer n) (I := fun _ => True)
    (Q := fun t => Cause.offerOut.isIn (t.profile o).status = true)
    (fun t i j ne => t.teardownOffer_entry_ne n i j ne) (fun _ _ _ => trivial) (fun t j set => ?_) allEntries_nodup
    (mem_allEntries i) trivial fun t same _ => ?_
  · exact (t.teardownOffer_raises_owner n j (A := fun _ _ => True) fun _ _ _ => trivial).isIn set
  · have here : t.entry i = { gen := (t.entry i).gen, body := .active o l (some n) } := by
      rw [← h, ← same]
    rw [t.teardownOffer_of_offered n here]
    exact State.raise_isIn _ .offerOut o

end

end Sys2Proof.Machine
end

section
/-! SUPPORT. The completion of a teardown: the wait entries, the status, the window, and the two statements (R176). -/

namespace Sys2Proof.Machine

/-! ## Items 3 to 7 -/

section
variable (s : State) (n : AgentId)

theorem State.teardownWait_wait (w v : WaitId) :
    (State.teardownWait n s w).wait v =
      if v = w ∧ (s.wait w).body.requester? = some n then { gen := (s.wait w).gen, body := .free } else s.wait v := by
  unfold State.teardownWait
  split
  next mine =>
    rw [State.freeWait_wait]
    by_cases eq : w = v
    · rw [if_pos eq, if_pos ⟨eq.symm, mine⟩]
    · rw [if_neg eq, if_neg fun h => eq h.1.symm]
  next other => rw [if_neg fun h => other h.2]

theorem State.teardownWait_order (w : WaitId) :
    (State.teardownWait n s w).waits.order =
      s.waits.order.filter fun v => !(v == w && decide ((s.wait w).body.requester? = some n)) := by
  unfold State.teardownWait
  split
  next mine =>
    rw [State.freeWait_order]
    exact List.filter_congr fun v _ => by simp [mine, bne]
  next other => exact (List.filter_eq_self.mpr fun v _ => by simp [other]).symm

theorem State.teardownWait_keeps {α : Type} (P : State → α) (wait : ∀ s w e, P (State.setWait s w e) = P s)
    (order : ∀ s l, P (State.setWaitOrder s l) = P s) (w : WaitId) : P (State.teardownWait n s w) = P s := by
  unfold State.teardownWait
  split
  · rw [State.freeWait, order, wait]
  · rfl

/-- The state after item 3 of R176. -/
def State.teardownWaited : State := allWaits.foldl (State.teardownWait n) (s.teardownOffered n)

theorem State.teardown_eq :
    s.teardown n = (((s.teardownWaited n).emptyStatus n).teardownWindow n).setReexamine true := rfl

theorem State.teardownWaited_keeps {α : Type} (P : State → α) (wait : ∀ s w e, P (State.setWait s w e) = P s)
    (order : ∀ s l, P (State.setWaitOrder s l) = P s) : P (s.teardownWaited n) = P (s.teardownOffered n) := by
  rw [State.teardownWaited, foldl_keeps P fun t w => t.teardownWait_keeps n P wait order w]

theorem State.teardownOffered_waits : (s.teardownOffered n).waits = s.waits :=
  s.teardownOffered_keeps n State.waits State.retire_waits (fun _ _ _ => rfl) fun _ _ _ => rfl

theorem State.teardownWaited_wait (w : WaitId) :
    (s.teardownWaited n).wait w =
      if (s.wait w).body.requester? = some n then { gen := (s.wait w).gen, body := .free } else s.wait w := by
  have begin_ : (s.teardownOffered n).wait w = s.wait w := by rw [State.wait, State.wait, s.teardownOffered_waits n]
  obtain ⟨t, old, new⟩ := foldl_record (get := State.wait) (f := State.teardownWait n)
    (fun t i j ne => by rw [t.teardownWait_wait n i j, if_neg fun h => ne h.1]) allWaits_nodup (mem_allWaits w)
    (s.teardownOffered n)
  rw [State.teardownWaited, new, t.teardownWait_wait n w w, old, begin_]
  by_cases mine : (s.wait w).body.requester? = some n
  · rw [if_pos ⟨rfl, mine⟩, if_pos mine]
  · rw [if_neg fun h => mine h.2, if_neg mine]

theorem State.teardownWaited_order :
    (s.teardownWaited n).waits.order = s.waits.order.filter fun w => (s.wait w).body.requester? ≠ some n := by
  have waits := s.teardownOffered_waits n
  rw [State.teardownWaited, foldl_order (f := State.teardownWait n)
    (fun t w v ne => by rw [t.teardownWait_wait n w v, if_neg fun h => ne h.1])
    (fun e => decide (e.body.requester? = some n)) (fun t w => t.teardownWait_order n w) allWaits allWaits_nodup, waits]
  refine List.filter_congr fun v _ => ?_
  have stands : (s.teardownOffered n).wait v = s.wait v := by rw [State.wait, State.wait, waits]
  rw [List.contains_iff_mem.mpr (mem_allWaits v), Bool.true_and, stands, decide_not]

/-- No entry becomes FAULTED or is FAULTED no longer. -/
theorem State.teardownOffered_isFaulted (i : EntryId) :
    ((s.teardownOffered n).entry i).body.isFaulted = (s.entry i).body.isFaulted := by
  have owned : ((s.teardownOwned n).entry i).body.isFaulted = (s.entry i).body.isFaulted := by
    by_cases mine : ∃ l x, (s.entry i).body = .active n l x
    · obtain ⟨l, x, body⟩ := mine
      have entry : s.entry i = { gen := (s.entry i).gen, body := .active n l x } := by rw [← body]
      rw [s.teardownOwned_entry_owned n entry, body]
      simp only [EntryBody.retired]
      split
      · rfl
      · split <;> rfl
    · rw [s.teardownOwned_entry_other n fun l x body => mine ⟨l, x, body⟩]
  rw [← owned]
  by_cases offered : ∃ o l, ((s.teardownOwned n).entry i).body = .active o l (some n)
  · obtain ⟨o, l, body⟩ := offered
    have entry : (s.teardownOwned n).entry i =
        { gen := ((s.teardownOwned n).entry i).gen, body := .active o l (some n) } := by rw [← body]
    rw [s.teardownOffered_entry_offered n entry, body]
    rfl
  · rw [s.teardownOffered_entry_other n fun o l body => offered ⟨o, l, body⟩]

theorem State.teardownWaited_entry (i : EntryId) : (s.teardownWaited n).entry i = (s.teardownOffered n).entry i :=
  s.teardownWaited_keeps n (fun t => t.entry i) (fun _ _ _ => rfl) fun _ _ => rfl

theorem State.teardownWaited_anyFaulted : (s.teardownWaited n).anyFaulted = s.anyFaulted := by
  simp only [State.anyFaulted, State.teardownWaited_entry, State.teardownOffered_isFaulted]

theorem State.teardownWaited_profile (k : AgentId) : (s.teardownWaited n).profile k = (s.teardownOffered n).profile k :=
  s.teardownWaited_keeps n (fun t => t.profile k) (fun _ _ _ => rfl) fun _ _ => rfl

theorem State.teardownWaited_port (k : AgentId) : (s.teardownWaited n).port k = s.port k := by
  have ports : (s.teardownWaited n).ports = s.ports :=
    (s.teardownWaited_keeps n State.ports (fun _ _ _ => rfl) fun _ _ => rfl).trans
      (s.teardownOffered_keeps n State.ports State.retire_ports (fun _ _ _ => rfl) fun _ _ _ => rfl)
  rw [State.port, State.port, ports]

theorem State.teardown_entry (i : EntryId) : (s.teardown n).entry i = (s.teardownOffered n).entry i := by
  rw [State.teardown_eq, State.setReexamine_entry, State.teardownWindow, State.setPort_entry, State.emptyStatus_entry,
    State.teardownWaited_entry]

theorem State.teardown_profile_ne {k : AgentId} (h : k ≠ n) :
    (s.teardown n).profile k = (s.teardownOffered n).profile k := by
  rw [State.teardown_eq, State.setReexamine_profile, State.teardownWindow, State.setPort_profile, State.emptyStatus,
    State.setProfile_profile, if_neg h.symm, State.teardownWaited_profile]

/-- Items 4 to 7 and the end of the job. -/
theorem State.teardown_keeps {α : Type} (P : State → α) (profile : ∀ s n p, P (State.setProfile s n p) = P s)
    (port : ∀ s n p, P (State.setPort s n p) = P s) (reexamine : ∀ s b, P (State.setReexamine s b) = P s)
    (job : ∀ s j, P (State.setJob s j) = P s) : P ((s.teardown n).setJob none) = P (s.teardownWaited n) := by
  rw [job, State.teardown_eq, reexamine, State.teardownWindow, port, State.emptyStatus, profile]

end

/-- Settles O24: item 1 retires the owned entries, item 2 withdraws the offers to the agent. -/
theorem teardownOfTheLeases : Obligations.TeardownOfTheLeases := by
  intro s n job
  have done : exec .teardown s = .next ((s.teardown n).setJob none) := by simp only [exec, execTeardown, job]
  refine ⟨(s.teardown n).setJob none, done, fun i g l o owned => ?_, fun i g k l other offered => ⟨?_, ?_⟩,
    fun i notOwned notOffered => ?_, ?_⟩
  · have retired := s.teardownOwned_entry_owned n owned
    rw [State.setJob_entry, s.teardown_entry n, s.teardownOffered_entry_other n fun o' l' => ?_, retired]
    · rfl
    · rw [retired]
      exact EntryBody.retired_not_active
  · have stands := s.teardownOwned_entry_other n (i := i) fun l' x body => by
      rw [offered] at body
      cases body
      exact other rfl
    rw [State.setJob_entry, s.teardown_entry n, s.teardownOffered_entry_offered n (stands.trans offered)]
  · have stands := s.teardownOwned_entry_other n (i := i) fun l' x body => by
      rw [offered] at body
      cases body
      exact other rfl
    rw [State.setJob_profile, s.teardown_profile_ne n other]
    exact s.teardownOffered_offerOut n (i := i) (l := l) (by rw [stands, offered])
  · have stands := s.teardownOwned_entry_other n notOwned
    rw [State.setJob_entry, s.teardown_entry n, s.teardownOffered_entry_other n (by rw [stands]; exact notOffered), stands]
  · have scrub := s.teardown_keeps n State.scrub (fun _ _ _ => rfl) (fun _ _ _ => rfl) (fun _ _ => rfl) fun _ _ => rfl
    rw [s.teardownWaited_keeps n State.scrub (fun _ _ _ => rfl) fun _ _ => rfl] at scrub
    refine ⟨_, by rw [scrub, s.teardownOffered_queue n], allEntries_rising.filter _, fun i => ?_⟩
    rw [List.mem_filter, Bool.and_eq_true]
    constructor
    · rintro ⟨-, mine, joins⟩
      obtain ⟨l, x, body⟩ := EntryBody.activeOf_eq_some.mp mine
      rw [body] at joins
      simp only [EntryBody.joinsAtRetirement, Bool.and_eq_true, beq_iff_eq, Bool.not_eq_true'] at joins
      exact ⟨l, x, body, joins⟩
    · rintro ⟨l, x, body, scrub, still⟩
      refine ⟨mem_allEntries i, EntryBody.activeOf_eq_some.mpr ⟨l, x, body⟩, ?_⟩
      simp [body, EntryBody.joinsAtRetirement, scrub, still]

/-- Settles O25: items 3 to 7 free the agent's wait entries and clear its latch, its status and its window. -/
theorem teardownOfTheRest : Obligations.TeardownOfTheRest := by
  intro s n job
  have done : exec .teardown s = .next ((s.teardown n).setJob none) := by simp only [exec, execTeardown, job]
  have raises := s.teardownOffered_raises n
  have wait : ∀ w, ((s.teardown n).setJob none).wait w = (s.teardownWaited n).wait w := fun w =>
    s.teardown_keeps n (fun t => t.wait w) (fun _ _ _ => rfl) (fun _ _ _ => rfl) (fun _ _ => rfl) fun _ _ => rfl
  have order := s.teardown_keeps n (fun t => t.waits.order) (fun _ _ _ => rfl) (fun _ _ _ => rfl) (fun _ _ => rfl)
    fun _ _ => rfl
  have kept : ∀ {α : Type} (P : State → α), (∀ s i, P (State.retire s i) = P s) →
      (∀ s i e, P (State.setEntry s i e) = P s) → (∀ s n p, P (State.setProfile s n p) = P s) →
      (∀ s w e, P (State.setWait s w e) = P s) → (∀ s l, P (State.setWaitOrder s l) = P s) →
      P (s.teardownWaited n) = P s := fun P retire entry profile wait order =>
    (s.teardownWaited_keeps n P wait order).trans (s.teardownOffered_keeps n P retire entry profile)
  have ended : ∀ {α : Type} (P : State → α), P (s.teardownWaited n) = P s →
      (∀ s n p, P (State.setProfile s n p) = P s) → (∀ s n p, P (State.setPort s n p) = P s) →
      (∀ s b, P (State.setReexamine s b) = P s) → (∀ s j, P (State.setJob s j) = P s) →
      P ((s.teardown n).setJob none) = P s := fun P waited profile port reexamine job =>
    (s.teardown_keeps n P profile port reexamine job).trans waited
  have hold := kept (fun t => t.scrub.holdPending) (fun t i => (t.retire_hold i).1) (fun _ _ _ => rfl)
    (fun _ _ _ => rfl) (fun _ _ _ => rfl) fun _ _ => rfl
  have sinceGo := kept (fun t => t.scrub.sinceGo) (fun t i => (t.retire_hold i).2) (fun _ _ _ => rfl)
    (fun _ _ _ => rfl) (fun _ _ _ => rfl) fun _ _ => rfl
  have manager := kept (fun t => ({ t.manager with job := none, reexamine := true } : LeaseManager))
    (State.retire_keeps (fun t => ({ t.manager with job := none, reexamine := true } : LeaseManager))
      (fun _ _ _ => rfl) (fun _ _ => rfl) (fun _ _ => rfl) fun _ _ => rfl) (fun _ _ _ => rfl) (fun _ _ _ => rfl)
    (fun _ _ _ => rfl) fun _ _ => rfl
  have inForce := kept (fun t => t.leases.inForce)
    (State.retire_keeps (fun t => t.leases.inForce) (fun _ _ _ => rfl) (fun _ _ => rfl) (fun _ _ => rfl)
      fun _ _ => rfl) (fun _ _ _ => rfl) (fun _ _ _ => rfl) (fun _ _ _ => rfl) fun _ _ => rfl
  have guards := kept State.guards State.retire_guards (fun _ _ _ => rfl) (fun _ _ _ => rfl) (fun _ _ _ => rfl)
    fun _ _ => rfl
  have timebase := kept State.timebase State.retire_timebase (fun _ _ _ => rfl) (fun _ _ _ => rfl) (fun _ _ _ => rfl)
    fun _ _ => rfl
  have phases := kept State.phases State.retire_phases (fun _ _ _ => rfl) (fun _ _ _ => rfl) (fun _ _ _ => rfl)
    fun _ _ => rfl
  have sram := kept State.sram State.retire_sram (fun _ _ _ => rfl) (fun _ _ _ => rfl) (fun _ _ _ => rfl)
    fun _ _ => rfl
  refine ⟨(s.teardown n).setJob none, done, fun w mine => ?_, fun w other => ?_, ?_, ?_, fun k other => ⟨?_, fun b hb => ?_, fun none_ => ?_⟩,
    ?_, fun k other => ?_, ?_, ?_, ?_, ?_, ?_, ?_, ?_, ?_⟩
  · rw [wait, s.teardownWaited_wait n w, if_pos mine]
  · rw [wait, s.teardownWaited_wait n w, if_neg other]
  · rw [order, s.teardownWaited_order n]
  · rw [State.setJob_profile, State.teardown_eq, State.setReexamine_profile, State.teardownWindow, State.setPort_profile,
      State.emptyStatus, State.setProfile_profile, if_pos rfl, s.teardownWaited_anyFaulted n,
      s.teardownWaited_profile n, (raises n).1]
    rfl
  · rw [State.setJob_profile, s.teardown_profile_ne n other]
    exact (raises k).1
  · rw [State.setJob_profile, s.teardown_profile_ne n other]
    exact (raises k).2.2 b fun c may => by rw [may.1]; exact hb.symm
  · rw [State.setJob_profile, s.teardown_profile_ne n other]
    exact raises.profile_of_none fun c ⟨_, i, l, body⟩ => none_ i l body
  · rw [State.setJob_port, State.teardown_eq, State.setReexamine_port, State.teardownWindow, State.setPort_port,
      if_pos rfl, State.emptyStatus_port, s.teardownWaited_port n]
  · rw [State.setJob_port, State.teardown_eq, State.setReexamine_port, State.teardownWindow, State.setPort_port,
      if_neg other.symm, State.emptyStatus_port, s.teardownWaited_port n]
  · rw [← manager, State.teardown_eq]
    generalize s.teardownWaited n = u
    rfl
  · exact ended (fun t => t.leases.inForce) inForce (fun _ _ _ => rfl) (fun _ _ _ => rfl) (fun _ _ => rfl) fun _ _ => rfl
  · exact ended State.guards guards (fun _ _ _ => rfl) (fun _ _ _ => rfl) (fun _ _ => rfl) fun _ _ => rfl
  · exact ended State.timebase timebase (fun _ _ _ => rfl) (fun _ _ _ => rfl) (fun _ _ => rfl) fun _ _ => rfl
  · exact ended State.phases phases (fun _ _ _ => rfl) (fun _ _ _ => rfl) (fun _ _ => rfl) fun _ _ => rfl
  · exact ended State.sram sram (fun _ _ _ => rfl) (fun _ _ _ => rfl) (fun _ _ => rfl) fun _ _ => rfl
  · exact ended (fun t => t.scrub.holdPending) hold (fun _ _ _ => rfl) (fun _ _ _ => rfl) (fun _ _ => rfl) fun _ _ => rfl
  · exact ended (fun t => t.scrub.sinceGo) sinceGo (fun _ _ _ => rfl) (fun _ _ _ => rfl) (fun _ _ => rfl) fun _ _ => rfl

end Sys2Proof.Machine
end

section
/-! SUPPORT. The commands on a handle, by what its entry is (R8, R74 to R79, R100 to R109, R121 to R130). -/

namespace Sys2Proof.Machine

/-! ## Handles -/

theorem Handle.ofWord_eq {w : Word} {h : Handle} (entry : h.entry.val = field w 0 6) (gen : h.gen.toNat = field w 8 8) :
    Handle.ofWord w = h := by
  obtain ⟨i, g⟩ := h
  exact congr (congrArg Handle.mk (Fin.ext entry.symm)) (BitVec.eq_of_toNat_eq gen.symm)

section
variable {s : State} {h : Handle}

theorem State.resolve_stale (stale : (s.entry h.entry).gen ≠ h.gen ∨ (s.entry h.entry).body = .free) :
    s.resolve h = .error .stale := by
  by_cases gen : (s.entry h.entry).gen = h.gen
  · have free := stale.resolve_left (not_not_intro gen)
    simp only [State.resolve, gen, free, ne_eq, not_true_eq_false, if_false]
  · simp only [State.resolve, ne_eq, gen, not_false_eq_true, if_true]

theorem State.resolve_retired (gen : (s.entry h.entry).gen = h.gen)
    (gone : (∃ o l d, (s.entry h.entry).body = .retiring o l d) ∨ ∃ l, (s.entry h.entry).body = .faulted l) :
    s.resolve h = .error .retired := by
  rcases gone with ⟨o, l, d, body⟩ | ⟨l, body⟩
  all_goals simp only [State.resolve, gen, body, ne_eq, not_true_eq_false, if_false]

theorem State.resolve_active {o : AgentId} {l : Lease} {x : Option AgentId}
    (entry : s.entry h.entry = { gen := h.gen, body := .active o l x }) :
    s.resolve h = .ok { owner := o, lease := l, offer := x } := by
  simp only [State.resolve, entry, ne_eq, not_true_eq_false, if_false]

theorem State.resolveFaulted_stale (stale : (s.entry h.entry).gen ≠ h.gen ∨ (s.entry h.entry).body = .free ∨
    ∃ o l x, (s.entry h.entry).body = .active o l x) : s.resolveFaulted h = .error .stale := by
  by_cases gen : (s.entry h.entry).gen = h.gen
  · rcases stale.resolve_left (not_not_intro gen) with body | ⟨o, l, x, body⟩
    all_goals simp only [State.resolveFaulted, gen, body, ne_eq, not_true_eq_false, if_false]
  · simp only [State.resolveFaulted, ne_eq, gen, not_false_eq_true, if_true]

theorem State.resolveFaulted_retired (gen : (s.entry h.entry).gen = h.gen)
    (gone : ∃ o l d, (s.entry h.entry).body = .retiring o l d) : s.resolveFaulted h = .error .retired := by
  obtain ⟨o, l, d, body⟩ := gone
  simp only [State.resolveFaulted, gen, body, ne_eq, not_true_eq_false, if_false]

theorem State.resolveFaulted_faulted {l : Lease} (entry : s.entry h.entry = { gen := h.gen, body := .faulted l }) :
    s.resolveFaulted h = .ok l := by
  simp only [State.resolveFaulted, entry, ne_eq, not_true_eq_false, if_false]

/-- The entry that a handle names stays ACTIVE under another owner, lease or offer. -/
theorem State.setActive_of_entry {b : EntryBody} (entry : s.entry h.entry = { gen := h.gen, body := b }) (v : ActiveView) :
    s.setActive h.entry v = s.setEntry h.entry { gen := h.gen, body := .active v.owner v.lease v.offer } := by
  rw [State.setActive, entry]

end

/-! ## The checks on a handle (R8) -/

section
variable {s : State} {n : AgentId} {c : Command} {ps : Vector Word 8}

theorem Command.run_of_unresolved {st : StatusCode}
    (hc : c ∈ [Command.renew, .narrow, .release, .revoke, .offer, .accept, .decline])
    (res : s.resolve (Handle.ofWord ps[0]) = .error st) : c.run n ps s = refuse s st := by
  simp only [List.mem_cons, List.not_mem_nil, or_false] at hc
  rcases hc with rfl | rfl | rfl | rfl | rfl | rfl | rfl
  · simp only [Command.run, State.renew, res]
  · simp only [Command.run, State.narrow, res]
  · simp only [Command.run, State.release, res]
  · simp only [Command.run, State.revoke, res]
  · simp only [Command.run, State.offer, res]
  · simp only [Command.run, State.accept, res]
  · simp only [Command.run, State.decline, res]

theorem Command.run_of_notOwner {v : ActiveView} (hc : c ∈ [Command.renew, .narrow, .release, .offer])
    (res : s.resolve (Handle.ofWord ps[0]) = .ok v) (other : v.owner ≠ n) : c.run n ps s = refuse s .notOwner := by
  simp only [List.mem_cons, List.not_mem_nil, or_false] at hc
  rcases hc with rfl | rfl | rfl | rfl
  · simp only [Command.run, State.renew, res, if_pos other]
  · simp only [Command.run, State.narrow, res, if_pos other]
  · simp only [Command.run, State.release, res, if_pos other]
  · simp only [Command.run, State.offer, res, if_pos other]

theorem Command.run_of_notOffered {v : ActiveView} (hc : c ∈ [Command.accept, .decline])
    (res : s.resolve (Handle.ofWord ps[0]) = .ok v) (other : v.offer ≠ some n) : c.run n ps s = refuse s .notOffered := by
  simp only [List.mem_cons, List.not_mem_nil, or_false] at hc
  rcases hc with rfl | rfl
  · simp only [Command.run, State.accept, res, if_pos other]
  · simp only [Command.run, State.decline, res, if_pos other]

end

/-- Settles O28. -/
theorem handleChecks : Obligations.HandleChecks := by
  intro s n c ps h e run entryField genField he
  have handle := Handle.ofWord_eq entryField genField
  subst he
  refine ⟨fun hc => ⟨fun stale => ?_, fun gen gone => ?_⟩, fun o l t entry => ⟨fun hc other => ?_, fun hc other => ?_⟩⟩
  · exact exec_of_refuse run (Command.run_of_unresolved hc (by rw [handle]; exact State.resolve_stale stale))
  · exact exec_of_refuse run (Command.run_of_unresolved hc (by rw [handle]; exact State.resolve_retired gen gone))
  · exact exec_of_refuse run (Command.run_of_notOwner hc (by rw [handle]; exact State.resolve_active entry) other)
  · exact exec_of_refuse run (Command.run_of_notOffered hc (by rw [handle]; exact State.resolve_active entry) other)

/-! ## RENEW and NARROW -/

theorem Lease.narrowable_iff (l : Lease) (order : Nat) (r : Rights) : l.narrowable order r = true ↔
    12 ≤ order ∧ order ≤ 24 ∧ order ≤ l.range.order ∧ (r.r = true ∨ r.w = true ∨ r.x = true) ∧
      (r.r = true → l.rights.r = true) ∧ (r.w = true → l.rights.w = true) ∧ (r.x = true → l.rights.x = true) ∧
      (l.disposition = .scrub → order = l.range.order) := by
  have disposition : (!(l.disposition == .scrub && decide (order < l.range.order))) = true ↔
      (l.disposition = .scrub → ¬order < l.range.order) := by simp [Decidable.imp_iff_not_or]
  have rights : (!r.isEmpty) = true ↔ (r.r = true ∨ r.w = true ∨ r.x = true) := by
    cases r with | mk a b c => cases a <;> cases b <;> cases c <;> decide
  have subset : r.subset l.rights = true ↔
      (r.r = true → l.rights.r = true) ∧ (r.w = true → l.rights.w = true) ∧ (r.x = true → l.rights.x = true) := by
    simp only [Rights.subset, Bool.and_eq_true, Bool.or_eq_true, Bool.not_eq_true', and_assoc, ← Bool.not_eq_true,
      ← Decidable.imp_iff_not_or]
  rw [Lease.narrowable, Bool.and_eq_true, Bool.and_eq_true, Bool.and_eq_true, Bool.and_eq_true, disposition, rights,
    subset, decide_eq_true_iff, decide_eq_true_iff]
  constructor
  · rintro ⟨⟨⟨⟨⟨low, high⟩, le⟩, some_⟩, hr, hw, hx⟩, keeps⟩
    exact ⟨low, high, le, some_, hr, hw, hx, fun scrub => Nat.le_antisymm le (Nat.not_lt.mp (keeps scrub))⟩
  · rintro ⟨low, high, le, some_, hr, hw, hx, keeps⟩
    exact ⟨⟨⟨⟨⟨low, high⟩, le⟩, some_⟩, hr, hw, hx⟩, fun scrub => by rw [keeps scrub]; exact Nat.lt_irrefl _⟩

end Sys2Proof.Machine
end

section
/-! SUPPORT. The commands on a handle whose entry is ACTIVE or FAULTED (R74 to R79, R100 to R109, R121 to R130). -/

namespace Sys2Proof.Machine

/-! ## RENEW and NARROW -/

section
variable {s : State} {n : AgentId} {ps : Vector Word 8} {h : Handle} {l : Lease} {x : Option AgentId}

theorem State.renew_of_owned (handle : Handle.ofWord ps[0] = h)
    (entry : s.entry h.entry = { gen := h.gen, body := .active n l x }) :
    State.renew n ps s =
      if !l.life.renewable (newTermField ps) then refuse s .badArg
      else granted (s.setEntry h.entry
        { gen := h.gen, body := .active n { l with life := l.life.renew (newTermField ps) } none }) := by
  simp only [State.renew, handle, State.resolve_active entry, ne_eq, not_true_eq_false, if_false,
    State.setActive_of_entry entry]

theorem State.narrow_of_owned (handle : Handle.ofWord ps[0] = h)
    (entry : s.entry h.entry = { gen := h.gen, body := .active n l x }) :
    State.narrow n ps s =
      if !l.narrowable (field ps[1] 0 5) (rightsField ps[2]) then refuse s .badArg
      else granted ((s.setEntry h.entry
        { gen := h.gen
          body := .active n
            { l with rights := rightsField ps[2], range := { l.range with order := field ps[1] 0 5 } }
            none }).setReexamine true) := by
  simp only [State.narrow, handle, State.resolve_active entry, ne_eq, not_true_eq_false, if_false,
    State.setActive_of_entry entry]

end

theorem Life.renewable_none (l : Life) : l.renewable none = true := rfl

theorem Life.renewable_some (l : Life) (term warn : Nat) :
    l.renewable (some (term, warn)) = true ↔ warn < term ∧ l ≠ .pinned := by
  simp only [Life.renewable, termValid, Bool.and_eq_true, decide_eq_true_iff, bne_iff_ne]
  exact and_congr_left fun _ => ⟨fun h => h.2, fun h => ⟨Nat.zero_lt_of_lt h, h⟩⟩

/-- Settles O32. -/
theorem renewAndNarrow : Obligations.RenewAndNarrow := by
  intro s n ps h l o entryField genField entry
  have handle := Handle.ofWord_eq entryField genField
  refine ⟨fun run => ⟨fun noTerm => ?_, fun newTerm term warn hterm hwarn => ?_⟩, fun run order r horder hr => ?_⟩
  · have none_ : newTermField ps = none := if_neg (by rw [noTerm]; decide)
    have e : Command.renew.run n ps s = _ := State.renew_of_owned handle entry
    rw [none_, if_neg (by rw [Life.renewable_none]; decide)] at e
    refine ⟨fun pinned => ?_, fun m k timed => ?_⟩
    · have same : l.life.renew none = l.life := by rw [pinned]; rfl
      rw [same] at e
      exact exec_of_granted run e rfl
    · rw [timed] at e
      exact exec_of_granted run e rfl
  · have some_ : newTermField ps = some (term, warn) := by rw [hterm, hwarn]; exact if_pos newTerm
    have e : Command.renew.run n ps s = _ := State.renew_of_owned handle entry
    rw [some_] at e
    refine ⟨fun bad => exec_of_refuse run (e.trans (if_pos ?_)), fun m k timed below => ?_⟩
    · rw [Bool.not_eq_true', ← Bool.not_eq_true, Life.renewable_some]
      rintro ⟨below, counts⟩
      rcases bad with pinned | zero | least
      · exact counts pinned
      · omega
      · omega
    · have renewable : l.life.renewable (some (term, warn)) = true :=
        (l.life.renewable_some term warn).mpr ⟨below, by rw [timed]; exact fun h => by cases h⟩
      rw [if_neg (by rw [renewable]; decide), timed] at e
      exact exec_of_granted run e rfl
  · have e : Command.narrow.run n ps s = _ := State.narrow_of_owned handle entry
    have rights : rightsField ps[2] = r := hr.symm
    rw [← horder, rights] at e
    refine ⟨fun bad => exec_of_refuse run (e.trans (if_pos ?_)), fun low high le some_ rR rW rX keeps => ?_⟩
    · rw [Bool.not_eq_true', ← Bool.not_eq_true, Lease.narrowable_iff]
      rintro ⟨low, high, le, some_, rR, rW, rX, keeps⟩
      rcases bad with h | h | h | h | ⟨h, k⟩ | ⟨h, k⟩ | ⟨h, k⟩ | ⟨h, k⟩
      · omega
      · omega
      · omega
      · rw [h] at some_
        simp at some_
      · rw [rR h] at k; cases k
      · rw [rW h] at k; cases k
      · rw [rX h] at k; cases k
      · exact k (keeps h)
    · have narrowable : l.narrowable order r = true :=
        (l.narrowable_iff order r).mpr ⟨low, high, le, some_, rR, rW, rX, keeps⟩
      rw [if_neg (by rw [narrowable]; decide)] at e
      exact exec_of_granted run e rfl

/-! ## RELEASE and REVOKE -/

theorem Range.contains_eq_false_iff (r : Range) (a : Addr) :
    r.contains a = false ↔ a.toNat < r.first ∨ r.last < a.toNat := by
  rw [← Bool.not_eq_true, Range.contains_iff, Classical.not_and_iff_not_or_not, Nat.not_le, Nat.not_le]

theorem State.inFlight_of_inside {s : State} {n : AgentId} {m : Marker} {r : Range} (marker : (s.port n).marker = some m)
    (first : r.first ≤ m.info.addr.toNat) (last : m.info.addr.toNat ≤ r.last) : s.inFlight n r = true := by
  simp only [State.inFlight, marker]
  exact (r.contains_iff _).mpr ⟨first, last⟩

theorem State.inFlight_of_outside {s : State} {n : AgentId} {r : Range}
    (h : ∀ m, (s.port n).marker = some m → m.info.addr.toNat < r.first ∨ r.last < m.info.addr.toNat) :
    s.inFlight n r = false := by
  unfold State.inFlight
  split
  next m marker => exact (r.contains_eq_false_iff _).mpr (h m marker)
  next => rfl

/-- Settles O33. -/
theorem releaseAndRevokeRetireTheEntry : Obligations.ReleaseAndRevokeRetireTheEntry := by
  intro s n c ps h o l x run hc entryField genField entry
  have handle := Handle.ofWord_eq entryField genField
  have port : ∀ t : State, t.ports = s.ports → t.port n = s.port n := fun t e => by rw [State.port, State.port, e]
  refine ⟨s.retire h.entry, ?_, fun m marker first last => ?_, fun outside => ⟨fun keep => ?_, fun scrub => ?_⟩⟩
  · rcases hc with ⟨rfl, owner⟩ | rfl
    · subst owner
      refine exec_of_granted run ?_ (port _ (s.retire_ports h.entry))
      simp only [Command.run, State.release, handle, State.resolve_active entry, ne_eq, not_true_eq_false, if_false]
      rfl
    · refine exec_of_granted run ?_ (port _ (s.retire_ports h.entry))
      simp only [Command.run, State.revoke, handle, State.resolve_active entry, if_true]
  · exact s.retire_draining entry (State.inFlight_of_inside marker first last)
  · exact s.retire_keep entry (State.inFlight_of_outside outside) keep
  · exact s.retire_scrub entry (State.inFlight_of_outside outside) scrub

/-! ## RETRY and FORGET -/

/-- Settles O34. -/
theorem retryAndForgetAndTheJoin : Obligations.RetryAndForgetAndTheJoin := by
  refine ⟨fun s i l lease => ⟨fun busy => ?_, fun idle empty => ?_⟩, fun s n c ps h e run hc entryField genField he => ?_⟩
  · rw [s.joinQueue_of_busy i busy]
    simp only [List.isEmpty_iff]
  · rw [s.joinQueue_of_idle i idle, empty]
    exact State.requestChunk_of_head (i := i) (q := []) _ rfl lease
  · have handle := Handle.ofWord_eq entryField genField
    have refused : ∀ st, s.resolveFaulted h = .error st → c.run n ps s = refuse s st := by
      intro st res
      rcases hc with rfl | rfl
      · simp only [Command.run, State.retry, handle, res]
      · simp only [Command.run, State.forget, handle, res]
    subst he
    refine ⟨fun stale => exec_of_refuse run (refused _ (State.resolveFaulted_stale stale)),
      fun gen gone => exec_of_refuse run (refused _ (State.resolveFaulted_retired gen gone)),
      fun l entry => ⟨fun hc => ?_, fun hc => ?_⟩⟩
    · subst hc
      refine exec_of_granted (c := .retry) run ?_ (State.joinQueue_port _ _ n)
      simp only [Command.run, State.retry, handle, State.resolveFaulted_faulted entry, entry]
    · subst hc
      refine exec_of_granted (c := .forget) run ?_ rfl
      simp only [Command.run, State.forget, handle, State.resolveFaulted_faulted entry, State.freeEntry, entry]

/-! ## OFFER, DECLINE, ACCEPT -/

section
variable {s : State} {n : AgentId} {ps : Vector Word 8} {h : Handle} {l : Lease} {x : Option AgentId}

theorem State.offer_of_owned (handle : Handle.ofWord ps[0] = h)
    (entry : s.entry h.entry = { gen := h.gen, body := .active n l x }) :
    State.offer n ps s =
      match agentField ps[1] 0 with
      | none => refuse s .badArg
      | some t =>
        if t = n ∨ l.life = .pinned then refuse s .badArg
        else if !(s.profile t).enabled then refuse s .denied
        else granted ((s.setEntry h.entry { gen := h.gen, body := .active n l (some t) }).raise .offerIn t) := by
  simp only [State.offer, handle, State.resolve_active entry, ne_eq, not_true_eq_false, if_false,
    State.setActive_of_entry entry] <;>
  rfl

theorem State.decline_of_offered {o : AgentId} (handle : Handle.ofWord ps[0] = h)
    (entry : s.entry h.entry = { gen := h.gen, body := .active o l (some n) }) :
    State.decline n ps s =
      granted ((s.setEntry h.entry { gen := h.gen, body := .active o l none }).raise .offerOut o) := by
  simp only [State.decline, handle, State.resolve_active entry, ne_eq, not_true_eq_false, if_false,
    State.setActive_of_entry entry]

theorem State.accept_of_offered {o : AgentId} (handle : Handle.ofWord ps[0] = h)
    (entry : s.entry h.entry = { gen := h.gen, body := .active o l (some n) }) :
    State.accept n ps s =
      if s.guardedFor n l.range then refuse s .guarded
      else if s.overQuota n l.range then refuse s .quota
      else if s.selfOverlaps n l.range then refuse s .selfOverlap
      else granted (((s.setEntry h.entry { gen := h.gen, body := .active n l.handedOver none }).raise
        .offerOut o).setReexamine true) := by
  simp only [State.accept, handle, State.resolve_active entry, ne_eq, not_true_eq_false, if_false,
    State.setActive_of_entry entry]

end

/-- Settles O35. -/
theorem offerAndDecline : Obligations.OfferAndDecline := by
  intro s n ps h o l x entryField genField entry
  have handle := Handle.ofWord_eq entryField genField
  refine ⟨fun run owner => ?_, fun run offered => ?_⟩
  · subst owner
    have e : Command.offer.run o ps s = _ := State.offer_of_owned handle entry
    refine ⟨fun bad => ?_, fun t named => ?_⟩
    · rw [agentField_of_ge bad] at e
      exact exec_of_refuse run e
    · rw [agentField_of_lt named] at e
      refine ⟨fun bad => exec_of_refuse run (e.trans (if_pos bad)), fun other counts => ?_⟩
      have valid : ¬(t = o ∨ l.life = .pinned) := not_or.mpr ⟨other, counts⟩
      refine ⟨fun disabled => ?_, fun enabled => ?_⟩
      · simp only [if_neg valid, disabled, Bool.not_false, if_true] at e
        exact exec_of_refuse run e
      · simp only [if_neg valid, enabled, Bool.not_true, Bool.false_eq_true, if_false] at e
        exact exec_of_granted run e rfl
  · subst offered
    have e : Command.decline.run n ps s = _ := State.decline_of_offered handle entry
    exact exec_of_granted run e rfl

/-- Settles O36. -/
theorem acceptPassesTheLeaseOn : Obligations.AcceptPassesTheLeaseOn := by
  intro s n ps h o l run entryField genField entry
  have e : Command.accept.run n ps s = _ := State.accept_of_offered (Handle.ofWord_eq entryField genField) entry
  refine ⟨fun guarded => exec_of_refuse run (e.trans (if_pos ((s.guardedFor_iff n l.range).mpr guarded))), fun clear => ?_⟩
  rw [if_neg fun h => (s.guardedFor_iff n l.range).mp h clear] at e
  refine ⟨fun exceeds => exec_of_refuse run (e.trans (if_pos ((s.overQuota_iff n l.range).mpr exceeds))), fun within => ?_⟩
  rw [if_neg fun h => (s.overQuota_iff n l.range).mp h within] at e
  refine ⟨fun laps => exec_of_refuse run (e.trans (if_pos ((s.selfOverlaps_iff n l.range).mpr laps))), fun apart => ?_⟩
  rw [if_neg fun h => (s.selfOverlaps_iff n l.range).mp h apart] at e
  refine ⟨l.life.reload, l.slot.map fun t : Slot => { t with effective := false }, fun pinned => by rw [pinned]; rfl,
    fun m k timed => by rw [timed]; rfl, fun none_ => by rw [none_]; rfl, fun y some_ => by rw [some_]; rfl,
    exec_of_granted run e rfl⟩

end Sys2Proof.Machine
end

section
/-! SUPPORT. ACQUIRE: its argument check, its checks in their order, the grant and the queue (R7, R61 to R73, R83). -/

namespace Sys2Proof.Machine

theorem Request.valid_iff (q : Request) : q.valid = true ↔
    (12 ≤ q.range.order ∧ q.range.order ≤ 24 ∧ q.range.base.toNat % 2 ^ q.range.order = 0 ∧
      (q.rights.r = true ∨ q.rights.w = true ∨ q.rights.x = true) ∧
      (q.share = .sharedRead → q.rights.w = false) ∧
      (∀ m term warn, q.life = .timed m term warn → 0 < term ∧ warn < term) ∧
      (q.life = .pinned → q.phase = none) ∧
      (q.disposition = .scrub → q.share = .exclusive ∧ q.phase = none)) := by
  have rights : (!q.rights.isEmpty) = true ↔ (q.rights.r = true ∨ q.rights.w = true ∨ q.rights.x = true) := by
    cases q.rights with | mk a b c => cases a <;> cases b <;> cases c <;> decide
  have share : (!(q.share == .sharedRead && q.rights.w)) = true ↔ (q.share = .sharedRead → q.rights.w = false) := by
    cases q.share <;> cases q.rights.w <;> decide
  have life : (match q.life with
      | .timed _ term warn => termValid term warn
      | .pinned => q.phase.isNone) = true ↔
      (∀ m term warn, q.life = .timed m term warn → 0 < term ∧ warn < term) ∧ (q.life = .pinned → q.phase = none) := by
    cases q.life with
    | timed m term warn =>
      simp only [termValid, decide_eq_true_iff]
      exact ⟨fun h => ⟨fun _ _ _ e => by cases e; exact h, fun e => by cases e⟩, fun h => h.1 m term warn rfl⟩
    | pinned =>
      refine Option.isNone_iff_eq_none.trans ⟨fun h => ⟨fun _ _ _ e => (by cases e), fun _ => h⟩, fun h => h.2 rfl⟩
  have disposition : (!(q.disposition == .scrub && (q.share != .exclusive || q.phase.isSome))) = true ↔
      (q.disposition = .scrub → q.share = .exclusive ∧ q.phase = none) := by
    cases q.disposition <;> cases q.share <;> cases q.phase <;> simp
  rw [Request.valid, Bool.and_eq_true, Bool.and_eq_true, Bool.and_eq_true, Bool.and_eq_true, Range.valid_iff, rights,
    share, disposition]
  rw [and_assoc, and_assoc, and_assoc, and_assoc, and_assoc]
  refine and_congr_right fun _ => and_congr_right fun _ => and_congr_right fun _ => and_congr_right fun _ =>
    and_congr_right fun _ => ?_
  rw [← and_assoc (c := q.disposition = .scrub → _)]
  exact and_congr_left fun _ => life

/-- The completion of ACQUIRE, which makes R53's check of a disabled agent itself (R65). -/
theorem exec_acquire_of {s t : State} {n : AgentId} {ps : Vector Word 8} {r : Reply} (h : s.Executes n .acquire ps)
    (e : State.acquire n ps s = (t, r)) (port : t.port n = s.port n) :
    exec .acquire s = .next (t.answered n 0x01 r) := by
  have done := s.completeWith_of_executes State.acquire h
  rw [e] at done
  exact congrArg Host.Outcome.next (done.trans (t.respond_answered 0x01 r (port ▸ h.2)))

section
variable {s : State} {n : AgentId} {ps : Vector Word 8} {q : Request}

theorem State.acquire_of_meaningless (h : decodeRequest ps = none) : State.acquire n ps s = refuse s .badArg := by
  simp only [State.acquire, h]

theorem State.acquire_of_invalid (h : decodeRequest ps = some q) (invalid : q.valid = false) :
    State.acquire n ps s = refuse s .badArg := by
  simp only [State.acquire, h, invalid, Bool.not_false, if_true]

/-- The checks of a valid request, in their order (R65 to R68). -/
theorem State.acquire_of_valid (h : decodeRequest ps = some q) (valid : q.valid = true) :
    State.acquire n ps s =
      if !(s.profile n).enabled || (q.life == .pinned && n != 0) then refuse s .denied
      else if s.guardedFor n q.range then refuse s .guarded
      else if s.overQuota n q.range then refuse s .quota
      else if s.selfOverlaps n q.range then refuse s .selfOverlap
      else if s.conflicts q || s.othersWait n q.range then s.queueOr n q ps .conflict
      else
        match s.firstFree with
        | none => s.queueOr n q ps .tableFull
        | some i => (s.allocate i n q, { status := .ok, r0 := (s.nextHandle i).word }) := by
  simp only [State.acquire, h, valid, Bool.not_true, Bool.false_eq_true, if_false] <;>
  rfl

theorem deniedAcquire_iff : (!(s.profile n).enabled || (q.life == .pinned && n != 0)) = true ↔
    (s.profile n).enabled = false ∨ q.life = .pinned ∧ n ≠ 0 := by
  simp

theorem contended_iff : (s.conflicts q || s.othersWait n q.range) = true ↔ ¬(s.NoConflict q ∧ s.NoneWaits n q.range) := by
  rw [Bool.or_eq_true, s.conflicts_iff, s.othersWait_iff, Classical.not_and_iff_not_or_not]

theorem State.queueOr_of_noFlag {st : StatusCode} (h : bit ps[6] 31 = false) : s.queueOr n q ps st = refuse s st := by
  simp only [State.queueOr, waitFlag, h, Bool.false_eq_true, if_false]

theorem State.queueOr_of_room {st : StatusCode} {w : WaitId} (h : bit ps[6] 31 = true) (lowest : s.LowestFreeWait w)
    (few : s.waitsHeld n < 4) :
    s.queueOr n q ps st =
      (s.queueWait w n q (deadlineField ps), { status := .queued, r0 := ticketWord w ((s.wait w).gen + 1) }) := by
  simp only [State.queueOr, waitFlag, h, if_true, s.firstFreeWait_of_lowest lowest, if_pos few]

theorem State.queueOr_of_full {st : StatusCode} (h : bit ps[6] 31 = true)
    (full : (∀ w, (s.wait w).body ≠ .free) ∨ 4 ≤ s.waitsHeld n) : s.queueOr n q ps st = refuse s .waitFull := by
  simp only [State.queueOr, waitFlag, h, if_true]
  cases first : s.firstFreeWait with
  | none => rfl
  | some w =>
    have free : (s.wait w).body = .free :=
      (WaitBody.isFree_iff _).mp (List.find?_some (p := fun w => (s.wait w).body.isFree) first)
    have many := full.resolve_left fun busy => busy w free
    exact if_neg (Nat.not_lt.mpr many)

/-- A request that passes checks 1 to 5 (R65 to R68). -/
theorem State.acquire_of_passed (read : q.ReadFrom ps) (valid : q.valid = true) (enabled : (s.profile n).enabled = true)
    (pinned : q.life = .pinned → n = 0) (unguarded : s.Unguarded n q.range) (within : s.WithinQuota n q.range)
    (apart : s.NoSelfOverlap n q.range) :
    State.acquire n ps s =
      if s.conflicts q || s.othersWait n q.range then s.queueOr n q ps .conflict
      else
        match s.firstFree with
        | none => s.queueOr n q ps .tableFull
        | some i => (s.allocate i n q, { status := .ok, r0 := (s.nextHandle i).word }) := by
  have admitted : ¬(!(s.profile n).enabled || (q.life == .pinned && n != 0)) = true := by
    rw [deniedAcquire_iff, enabled]
    rintro (h | ⟨life, other⟩)
    · cases h
    · exact other (pinned life)
  rw [State.acquire_of_valid (Request.readFrom_iff.mp read) valid, if_neg admitted,
    if_neg fun h => (s.guardedFor_iff n _).mp h unguarded, if_neg fun h => (s.overQuota_iff n _).mp h within,
    if_neg fun h => (s.selfOverlaps_iff n _).mp h apart]

end

/-- Settles O29. -/
theorem acquireChecksInOrder : Obligations.AcquireChecksInOrder := by
  refine ⟨Request.valid_iff, fun s n ps run => ⟨fun share mode => ?_, fun bad => ?_, fun q read valid => ?_⟩⟩
  · cases decoded : decodeRequest ps with
    | none => exact absurd (decodeRequest_eq_none.mp decoded) (not_or.mpr ⟨share, mode⟩)
    | some q => exact ⟨q, Request.readFrom_iff.mpr decoded⟩
  · refine exec_acquire_of run ?_ rfl
    rcases bad with share | mode | ⟨q, read, invalid⟩
    · exact State.acquire_of_meaningless (decodeRequest_eq_none.mpr (.inl share))
    · exact State.acquire_of_meaningless (decodeRequest_eq_none.mpr (.inr mode))
    · exact State.acquire_of_invalid (Request.readFrom_iff.mp read) invalid
  · have e := State.acquire_of_valid (s := s) (n := n) (Request.readFrom_iff.mp read) valid
    refine ⟨fun denied => exec_acquire_of run (e.trans (if_pos (deniedAcquire_iff.mpr denied))) rfl,
      fun enabled pinned => ?_⟩
    have admitted : ¬(!(s.profile n).enabled || (q.life == .pinned && n != 0)) = true := by
      rw [deniedAcquire_iff, enabled]
      rintro (h | ⟨life, other⟩)
      · cases h
      · exact other (pinned life)
    rw [if_neg admitted] at e
    refine ⟨fun guarded => exec_acquire_of run (e.trans (if_pos ((s.guardedFor_iff n _).mpr guarded))) rfl,
      fun unguarded => ?_⟩
    rw [if_neg fun h => (s.guardedFor_iff n _).mp h unguarded] at e
    refine ⟨fun exceeds => exec_acquire_of run (e.trans (if_pos ((s.overQuota_iff n _).mpr exceeds))) rfl,
      fun within => ?_⟩
    rw [if_neg fun h => (s.overQuota_iff n _).mp h within] at e
    refine ⟨fun laps => exec_acquire_of run (e.trans (if_pos ((s.selfOverlaps_iff n _).mpr laps))) rfl,
      fun apart noFlag => ?_⟩
    rw [if_neg fun h => (s.selfOverlaps_iff n _).mp h apart] at e
    refine ⟨fun contended => exec_acquire_of run
      ((e.trans (if_pos (contended_iff.mpr contended))).trans (State.queueOr_of_noFlag noFlag)) rfl,
      fun compatible none_ full => ?_⟩
    rw [if_neg fun h => contended_iff.mp h ⟨compatible, none_⟩, s.firstFree_of_none full] at e
    exact exec_acquire_of run (e.trans (State.queueOr_of_noFlag noFlag)) rfl

theorem ticketWord_eq_ofNat (w : WaitId) (g : BitVec 4) : ticketWord w g = BitVec.ofNat 32 (w.val + 16 * g.toNat) := by
  have hw : w.val < 16 := w.isLt
  have hg : g.toNat < 16 := g.isLt
  have low : (place 0 w.val).toNat = w.val := by
    have h := toNat_place (lo := 0) (v := w.val) (by omega)
    simpa using h
  refine BitVec.eq_of_toNat_eq ?_
  rw [ticketWord, toNat_or_place (by omega) (by omega), low, BitVec.toNat_ofNat]
  omega

/-- Settles O30. -/
theorem acquireGrantsTheLowestFreeEntry : Obligations.AcquireGrantsTheLowestFreeEntry := by
  intro s n ps q i run read valid enabled pinned unguarded within apart compatible none_ lowest
  have e := State.acquire_of_passed read valid enabled pinned unguarded within apart
  rw [if_neg fun h => contended_iff.mp h ⟨compatible, none_⟩, s.firstFree_of_lowest lowest] at e
  have word : (s.nextHandle i).word = BitVec.ofNat 32 (i.val + 256 * ((s.entry i).gen + 1).toNat) :=
    Handle.word_eq_ofNat _
  dsimp only at e
  rw [word] at e
  exact ⟨q.lease.life, fun life => by simp only [Request.lease, life],
    fun m term warn life => by simp only [Request.lease, life], exec_acquire_of run e rfl⟩

/-- Settles O31. -/
theorem acquireQueuesOrFindsTheListFull : Obligations.AcquireQueuesOrFindsTheListFull := by
  intro s n ps q run read valid enabled pinned unguarded within apart contended flag
  have e := State.acquire_of_passed read valid enabled pinned unguarded within apart
  have queued : ∃ st, State.acquire n ps s = s.queueOr n q ps st := by
    by_cases conflict : s.conflicts q || s.othersWait n q.range
    · exact ⟨_, e.trans (if_pos conflict)⟩
    · have full := contended.resolve_left fun h => conflict (contended_iff.mpr h)
      rw [if_neg conflict, s.firstFree_of_none full] at e
      exact ⟨_, e⟩
  obtain ⟨st, e⟩ := queued
  refine ⟨fun w lowest few => ?_, fun full => exec_acquire_of run (e.trans (State.queueOr_of_full flag full)) rfl⟩
  rw [State.queueOr_of_room flag lowest few, ticketWord_eq_ofNat] at e
  exact exec_acquire_of run e rfl

end Sys2Proof.Machine
end

section
/-! SUPPORT. R53's refusals, and the completion of a command at a window that a detach event has reached: what a command
does does not depend on its window (R52, R53). -/

namespace Sys2Proof.Machine

/-! ## The checks of R53 -/

theorem State.admission_of_supervisor (s : State) {c : Command} {n : AgentId} (supervisor : c.supervisor = true)
    (other : n ≠ 0) : s.admission c n = some .denied := if_pos ⟨supervisor, other⟩

theorem State.admission_of_disabled {s : State} {c : Command} {n : AgentId} (closed : c.openToDisabled = false)
    (disabled : (s.profile n).enabled = false) : s.admission c n = some .denied := by
  have refused : ¬(s.profile n).enabled = true ∧ ¬c.openToDisabled = true := by rw [disabled, closed]; decide
  unfold State.admission
  rw [if_pos refused]
  exact ite_self _

theorem State.exec_of_denied {s : State} {n : AgentId} {c : Command} {ps : Vector Word 8} (other : c ≠ .acquire)
    (h : s.Executes n c ps) (denied : s.admission c n = some .denied) :
    exec c.instr s = .next (s.answered n c.code { status := .denied }) := by
  rw [exec_completion, State.completion, if_neg other, State.complete, s.completeWith_of_executes _ h, denied]
  exact congrArg Host.Outcome.next (s.respond_answered c.code _ h.2)

theorem knownCode_of_none {code : BitVec 8} (h : ∀ c : Command, c.code ≠ code) : knownCode code = false := by
  refine Bool.eq_false_iff.mpr fun known => ?_
  obtain ⟨c, -, e⟩ := List.any_eq_true.mp known
  exact h c (beq_iff_eq.mp e)

theorem exec_badCmd {s : State} {n : AgentId} {code : BitVec 8} {ps : Vector Word 8} (unknown : ∀ c : Command, c.code ≠ code)
    (job : s.manager.job = some (.command n code ps)) :
    exec .badCmd s = .next ((s.setJob none).respond n code { status := .badCmd }) := by
  have e : execBadCmd s = .next ((s.setJob none).respond n code { status := .badCmd }) := by
    simp only [execBadCmd, job, knownCode_of_none unknown, Bool.false_eq_true, if_false]
  exact e

/-- Settles O26. -/
theorem admissionOfEveryCommand : Obligations.AdmissionOfEveryCommand := by
  refine fun s n ps => ⟨fun code unknown job executing => ?_, fun c executes => ⟨fun supervisor other => ?_,
    fun other closed disabled => ?_⟩⟩
  · rw [exec_badCmd unknown job, s.respond_answered code _ executing]
  · exact State.exec_of_denied (by rintro rfl; cases supervisor) executes (s.admission_of_supervisor supervisor other)
  · exact State.exec_of_denied other executes (State.admission_of_disabled closed disabled)

/-! ## A command does not look at its window -/

/-- The state with other ports. -/
def State.withPorts (s : State) (p : Vector Port 6) : State := { s with ports := p }

/-- The ports p have the markers of s. -/
def State.MarkedAs (s : State) (p : Vector Port 6) : Prop := ∀ n : AgentId, p[n].marker = (s.port n).marker

/-- What runs from s is the same beside other ports with the same markers, but for the ports that it leaves. -/
def State.BlindTo (run : State → State × Reply) (s : State) : Prop :=
  ∀ p, s.MarkedAs p → run (s.withPorts p) = ((run s).1.withPorts p, (run s).2)

section
variable {s : State} {p : Vector Port 6}

theorem State.withPorts_self : s.withPorts s.ports = s := rfl

theorem State.withPorts_inFlight (h : s.MarkedAs p) (n : AgentId) (r : Range) :
    (s.withPorts p).inFlight n r = s.inFlight n r := by
  have marker : ((s.withPorts p).port n).marker = (s.port n).marker := h n
  rw [State.inFlight, State.inFlight, marker]

theorem State.withPorts_requestChunk : (s.withPorts p).requestChunk = s.requestChunk.withPorts p := by
  have queue : (s.withPorts p).scrub = s.scrub := rfl
  have entry : ∀ i, (s.withPorts p).entry i = s.entry i := fun _ => rfl
  unfold State.requestChunk
  rw [queue]
  cases s.scrub.queue with
  | nil => rfl
  | cons i rest =>
    simp only [entry]
    cases (s.entry i).body.lease? <;> rfl

theorem State.withPorts_joinQueue (i : EntryId) : (s.withPorts p).joinQueue i = (s.joinQueue i).withPorts p := by
  have scrub : (s.withPorts p).scrub = s.scrub := rfl
  simp only [State.joinQueue, scrub]
  cases s.scrub.mode with
  | idle => exact State.withPorts_requestChunk (s := s.setScrub _)
  | running => rfl
  | suspending => rfl
  | suspended => rfl

theorem State.withPorts_retire (h : s.MarkedAs p) (i : EntryId) : (s.withPorts p).retire i = (s.retire i).withPorts p := by
  have entry : (s.withPorts p).entry i = s.entry i := rfl
  unfold State.retire
  rw [entry]
  cases (s.entry i).body with
  | free => rfl
  | retiring o l d => rfl
  | faulted l => rfl
  | active o l x =>
    dsimp only
    rw [State.withPorts_inFlight h]
    cases s.inFlight o l.range with
    | true => rfl
    | false =>
      rw [if_neg Bool.false_ne_true, if_neg Bool.false_ne_true, State.drained, State.drained]
      cases l.disposition with
      | keep => rfl
      | scrub => exact State.withPorts_joinQueue (s := s.setEntry i _) i

theorem State.withPorts_takeSequencerClaim (c : SequencerClaim) :
    (s.withPorts p).takeSequencerClaim c = (s.takeSequencerClaim c).withPorts p := by
  cases c with
  | none => rfl
  | opening q =>
    rw [State.takeSequencerClaim_opening, State.takeSequencerClaim_opening]
    have walk : (s.withPorts p).forEntries (State.openEntry q) = (s.forEntries (State.openEntry q)).withPorts p :=
      List.foldl_hom (fun t => State.withPorts t p) fun _ _ => rfl
    rw [walk]
    rfl

theorem State.withPorts_takeAllSequencerClaims (c : SequencerClaim) :
    (s.withPorts p).takeAllSequencerClaims c = (s.takeAllSequencerClaims c).withPorts p := by
  unfold State.takeAllSequencerClaims
  exact List.foldl_hom (fun t => State.withPorts t p) (init := s.setSequencerClaims []) fun _ _ =>
    State.withPorts_takeSequencerClaim _

/-! ### The runs of the commands -/

variable (n : AgentId) (ps : Vector Word 8)

@[simp] theorem State.withPorts_resolve (h : Handle) : (s.withPorts p).resolve h = s.resolve h := rfl
@[simp] theorem State.withPorts_resolveFaulted (h : Handle) : (s.withPorts p).resolveFaulted h = s.resolveFaulted h := rfl
@[simp] theorem State.withPorts_resolveTicket (x : WaitId × BitVec 4) :
    (s.withPorts p).resolveTicket n x = s.resolveTicket n x := rfl
@[simp] theorem State.withPorts_entry (i : EntryId) : (s.withPorts p).entry i = s.entry i := rfl
@[simp] theorem State.withPorts_profile (m : AgentId) : (s.withPorts p).profile m = s.profile m := rfl
@[simp] theorem State.withPorts_guard (g : GuardId) : (s.withPorts p).guard g = s.guard g := rfl
@[simp] theorem State.withPorts_scrub : (s.withPorts p).scrub = s.scrub := rfl
@[simp] theorem State.withPorts_phases : (s.withPorts p).phases = s.phases := rfl
@[simp] theorem State.withPorts_timebase : (s.withPorts p).timebase = s.timebase := rfl
@[simp] theorem State.withPorts_guardedFor (r : Range) : (s.withPorts p).guardedFor n r = s.guardedFor n r := rfl
@[simp] theorem State.withPorts_overQuota (r : Range) : (s.withPorts p).overQuota n r = s.overQuota n r := rfl
@[simp] theorem State.withPorts_selfOverlaps (r : Range) : (s.withPorts p).selfOverlaps n r = s.selfOverlaps n r := rfl
@[simp] theorem State.withPorts_conflicts (q : Request) : (s.withPorts p).conflicts q = s.conflicts q := rfl
@[simp] theorem State.withPorts_othersWait (r : Range) : (s.withPorts p).othersWait n r = s.othersWait n r := rfl
@[simp] theorem State.withPorts_othersHold (r : Range) : (s.withPorts p).othersHold r = s.othersHold r := rfl
@[simp] theorem State.withPorts_firstFree : (s.withPorts p).firstFree = s.firstFree := rfl
@[simp] theorem State.withPorts_firstFreeWait : (s.withPorts p).firstFreeWait = s.firstFreeWait := rfl
@[simp] theorem State.withPorts_waitsHeld : (s.withPorts p).waitsHeld n = s.waitsHeld n := rfl
@[simp] theorem State.withPorts_leasesHeld : (s.withPorts p).leasesHeld n = s.leasesHeld n := rfl
@[simp] theorem State.withPorts_pagesHeld : (s.withPorts p).pagesHeld n = s.pagesHeld n := rfl
@[simp] theorem State.withPorts_findFrom (i : EntryId) (x : Selector) : (s.withPorts p).findFrom i x = s.findFrom i x := rfl

/-- A check on what the ports do not hold. -/
theorem State.blind_ite {check : Prop} [Decidable check] {a b c d : State × Reply} (first : a = (c.1.withPorts p, c.2))
    (second : b = (d.1.withPorts p, d.2)) :
    (if check then a else b) = ((if check then c else d).1.withPorts p, (if check then c else d).2) := by
  by_cases h : check
  · rw [if_pos h, if_pos h, first]
  · rw [if_neg h, if_neg h, second]

/-- A check that refuses, before the rest of the command. -/
theorem State.blind_check {check : Prop} [Decidable check] {st : StatusCode} {a b : State × Reply}
    (rest : a = (b.1.withPorts p, b.2)) :
    (if check then refuse (s.withPorts p) st else a) =
      ((if check then refuse s st else b).1.withPorts p, (if check then refuse s st else b).2) :=
  State.blind_ite rfl rest

theorem State.queueOr_blind (q : Request) (st : StatusCode) :
    (s.withPorts p).queueOr n q ps st = ((s.queueOr n q ps st).1.withPorts p, (s.queueOr n q ps st).2) := by
  simp only [State.queueOr, State.withPorts_firstFreeWait, State.withPorts_waitsHeld]
  cases waitFlag ps with
  | false => rfl
  | true =>
    cases s.firstFreeWait with
    | none => rfl
    | some w => by_cases room : s.waitsHeld n < 4 <;> simp only [room, if_true, if_false] <;> rfl

theorem State.acquire_blind : s.BlindTo (State.acquire n ps) := fun p _ => by
  simp only [State.acquire, State.withPorts_profile, State.withPorts_guardedFor, State.withPorts_overQuota,
    State.withPorts_selfOverlaps, State.withPorts_conflicts, State.withPorts_othersWait, State.withPorts_firstFree]
  cases decodeRequest ps with
  | none => rfl
  | some q =>
    refine State.blind_check <| State.blind_check <| State.blind_check <| State.blind_check <| State.blind_check <|
      State.blind_ite (s.queueOr_blind n ps q _) ?_
    cases s.firstFree with
    | none => exact s.queueOr_blind n ps q _
    | some i => rfl

theorem State.renew_blind : s.BlindTo (State.renew n ps) := fun p _ => by
  simp only [State.renew, State.withPorts_resolve]
  cases s.resolve (Handle.ofWord ps[0]) with
  | error st => rfl
  | ok v => exact State.blind_check (State.blind_check rfl)

theorem State.narrow_blind : s.BlindTo (State.narrow n ps) := fun p _ => by
  simp only [State.narrow, State.withPorts_resolve]
  cases s.resolve (Handle.ofWord ps[0]) with
  | error st => rfl
  | ok v => exact State.blind_check (State.blind_check rfl)

theorem State.release_blind : s.BlindTo (State.release n ps) := fun p marked => by
  simp only [State.release, State.withPorts_resolve, State.withPorts_retire marked]
  cases s.resolve (Handle.ofWord ps[0]) with
  | error st => rfl
  | ok v => exact State.blind_check rfl

theorem State.revoke_blind : s.BlindTo (State.revoke n ps) := fun p marked => by
  simp only [State.revoke, State.withPorts_resolve, State.withPorts_retire marked]
  cases s.resolve (Handle.ofWord ps[0]) <;> rfl

theorem State.offer_blind : s.BlindTo (State.offer n ps) := fun p _ => by
  simp only [State.offer, State.withPorts_resolve, State.withPorts_profile]
  cases s.resolve (Handle.ofWord ps[0]) with
  | error st => rfl
  | ok v =>
    refine State.blind_check ?_
    cases agentField ps[1] 0 with
    | none => rfl
    | some t => exact State.blind_check (State.blind_check rfl)

theorem State.accept_blind : s.BlindTo (State.accept n ps) := fun p _ => by
  simp only [State.accept, State.withPorts_resolve, State.withPorts_guardedFor, State.withPorts_overQuota,
    State.withPorts_selfOverlaps]
  cases s.resolve (Handle.ofWord ps[0]) with
  | error st => rfl
  | ok v => exact State.blind_check (State.blind_check (State.blind_check (State.blind_check rfl)))

theorem State.decline_blind : s.BlindTo (State.decline n ps) := fun p _ => by
  simp only [State.decline, State.withPorts_resolve]
  cases s.resolve (Handle.ofWord ps[0]) with
  | error st => rfl
  | ok v => exact State.blind_check rfl

theorem State.query_blind : s.BlindTo (State.query n ps) := fun p _ => by
  simp only [State.query, State.withPorts_entry, State.withPorts_scrub]
  refine State.blind_check ?_
  cases (s.entry (Handle.ofWord ps[0]).entry).body.lease? with
  | none => rfl
  | some l => exact State.blind_check (State.blind_ite rfl rfl)

theorem State.find_blind : s.BlindTo (State.find n ps) := fun p _ => by
  simp only [State.find, State.withPorts_findFrom, State.withPorts_entry]
  cases selectorField ps with
  | none => rfl
  | some x =>
    refine State.blind_check ?_
    cases s.findFrom (ps[0].extractLsb' 0 6).toFin x <;> rfl

theorem State.readProfile_blind : s.BlindTo (State.readProfile n ps) := fun p _ => by
  simp only [State.readProfile]
  cases agentField ps[0] 0 with
  | none => rfl
  | some m => exact State.blind_check rfl

theorem State.collect_blind : s.BlindTo (State.collect n ps) := fun p _ => by
  simp only [State.collect, State.withPorts_resolveTicket]
  cases s.resolveTicket n (ticketOfWord ps[0]) with
  | error st => rfl
  | ok b => cases b <;> rfl

theorem State.cancel_blind : s.BlindTo (State.cancel n ps) := fun p _ => by
  simp only [State.cancel, State.withPorts_resolveTicket]
  cases s.resolveTicket n (ticketOfWord ps[0]) with
  | error st => rfl
  | ok b => cases b <;> rfl

theorem State.writeProfile_blind : s.BlindTo (State.writeProfile n ps) := fun p _ => by
  simp only [State.writeProfile, State.withPorts_profile, State.withPorts_leasesHeld, State.withPorts_pagesHeld]
  cases agentField ps[0] 0 with
  | none => rfl
  | some m => exact State.blind_check (State.blind_check (State.blind_check rfl))

theorem State.lockProfile_blind : s.BlindTo (State.lockProfile n ps) := fun p _ => by
  simp only [State.lockProfile]
  cases agentField ps[0] 0 <;> rfl

theorem State.writeGuard_blind : s.BlindTo (State.writeGuard n ps) := fun p _ => by
  simp only [State.writeGuard, State.withPorts_guard, State.withPorts_othersHold]
  exact State.blind_check (State.blind_check (State.blind_check rfl))

theorem State.timebaseStart_blind : s.BlindTo (State.timebaseStart n ps) := fun _ _ => State.blind_ite rfl rfl

theorem State.writePhases_blind : s.BlindTo (State.writePhases n ps) := fun p _ => by
  simp only [State.writePhases, State.withPorts_phases, State.withPorts_timebase]
  refine State.blind_ite ?_ rfl
  cases (s.phases.adopt (lengthFields ps)).2 with
  | none => rfl
  | some c =>
    exact congrArg granted (State.withPorts_takeAllSequencerClaims (s := s.setPhases (s.phases.adopt (lengthFields ps)).1) c)

theorem State.scrubHold_blind : s.BlindTo (State.scrubHold n ps) := fun p _ => by
  simp only [State.scrubHold, State.withPorts_scrub]
  cases s.scrub.mode with
  | running => exact State.blind_ite rfl (State.blind_ite rfl rfl)
  | idle => rfl
  | suspending => rfl
  | suspended => rfl

theorem State.scrubGo_blind : s.BlindTo (State.scrubGo n ps) := fun p _ => by
  simp only [State.scrubGo, State.withPorts_scrub]
  cases s.scrub.mode with
  | suspended =>
    exact State.blind_ite rfl (congrArg granted (State.withPorts_requestChunk (s := s.setScrub _)))
  | running => exact State.blind_ite rfl rfl
  | suspending => rfl
  | idle => rfl

theorem State.retry_blind : s.BlindTo (State.retry n ps) := fun p _ => by
  simp only [State.retry, State.withPorts_resolveFaulted]
  cases s.resolveFaulted (Handle.ofWord ps[0]) with
  | error st => rfl
  | ok l => exact congrArg granted (State.withPorts_joinQueue (s := s.setEntry _ _) _)

theorem State.forget_blind : s.BlindTo (State.forget n ps) := fun p _ => by
  simp only [State.forget, State.withPorts_resolveFaulted]
  cases s.resolveFaulted (Handle.ofWord ps[0]) <;> rfl

end

theorem Command.run_blind {c : Command} (other : c ≠ .detach) (n : AgentId) (ps : Vector Word 8) (s : State) :
    s.BlindTo (c.run n ps) := by
  cases c with
  | acquire => exact s.acquire_blind n ps
  | renew => exact s.renew_blind n ps
  | narrow => exact s.narrow_blind n ps
  | release => exact s.release_blind n ps
  | query => exact s.query_blind n ps
  | find => exact s.find_blind n ps
  | collect => exact s.collect_blind n ps
  | cancel => exact s.cancel_blind n ps
  | offer => exact s.offer_blind n ps
  | accept => exact s.accept_blind n ps
  | decline => exact s.decline_blind n ps
  | fault => exact fun _ _ => rfl
  | profile => exact s.readProfile_blind n ps
  | revoke => exact s.revoke_blind n ps
  | detach => exact absurd rfl other
  | setProfile => exact s.writeProfile_blind n ps
  | lockProfile => exact s.lockProfile_blind n ps
  | setGuard => exact s.writeGuard_blind n ps
  | setTimebase => exact fun _ _ => rfl
  | timebaseStop => exact fun _ _ => rfl
  | timebaseStart => exact s.timebaseStart_blind n ps
  | setPhases => exact s.writePhases_blind n ps
  | scrubHold => exact s.scrubHold_blind n ps
  | scrubGo => exact s.scrubGo_blind n ps
  | retry => exact s.retry_blind n ps
  | forget => exact s.forget_blind n ps

end Sys2Proof.Machine
end

section
/-! SUPPORT. The completion of a command at a DETACHING window: its effects without its response (R52). -/

namespace Sys2Proof.Machine

/-! ### The window cut off -/

/-- Window n is DETACHING, and all else stands. -/
def State.windowCut (s : State) (n : AgentId) : State := s.setPort n { s.port n with window := .detaching }

section
variable {s t : State} {n : AgentId} {c : Command} {ps : Vector Word 8}

theorem State.windowCut_port_self : (s.windowCut n).port n = { s.port n with window := .detaching } := by
  rw [State.windowCut, State.setPort_port, if_pos rfl]

theorem State.windowCut_port_ne {k : AgentId} (h : k ≠ n) : (s.windowCut n).port k = s.port k := by
  rw [State.windowCut, State.setPort_port, if_neg h.symm]

theorem State.windowCut_marked : s.MarkedAs (s.windowCut n).ports := fun k => by
  show ((s.windowCut n).port k).marker = (s.port k).marker
  by_cases h : k = n
  · rw [h, State.windowCut_port_self]
  · rw [State.windowCut_port_ne h]

theorem State.BlindTo.ports {run : State → State × Reply} (h : s.BlindTo run) : (run s).1.ports = s.ports := by
  have same : run s = ((run s).1.withPorts s.ports, (run s).2) := h s.ports fun _ => rfl
  rw [same]
  rfl

theorem State.BlindTo.windowCut {run : State → State × Reply} (h : s.BlindTo run) :
    run (s.windowCut n) = ((run s).1.windowCut n, (run s).2) := by
  have cut : (run s).1.windowCut n = (run s).1.withPorts (s.windowCut n).ports := by
    simp only [State.windowCut, State.setPort, State.withPorts, State.port, h.ports]
  rw [cut]
  exact h _ State.windowCut_marked

theorem State.detachEvent_windowCut {m : AgentId} (other : m ≠ n) :
    (s.windowCut n).detachEvent m = (s.detachEvent m).windowCut n ∧ (s.detachEvent m).port n = s.port n := by
  have port : (s.windowCut n).port m = s.port m := State.windowCut_port_ne other
  by_cases detaching : (s.port m).window = .detaching
  · rw [s.detachEvent_of_detaching detaching, (s.windowCut n).detachEvent_of_detaching (by rw [port, detaching])]
    exact ⟨rfl, rfl⟩
  · have kept : (s.detachEvent m).port n = s.port n := by
      rw [s.detachEvent_of_attached detaching, State.setJobList_port, State.setPort_port, if_neg other]
    refine ⟨?_, kept⟩
    rw [show (s.detachEvent m).windowCut n = (s.detachEvent m).setPort n { s.port n with window := .detaching } by
      rw [State.windowCut, kept], s.detachEvent_of_attached detaching,
      (s.windowCut n).detachEvent_of_attached (by rwa [port]), port]
    simp only [State.windowCut, State.setPort, State.setJobList]
    congr 1
    exact Vector.set_comm _ _ (fun e => other (Fin.ext e.symm))

/-- A command does at a DETACHING window what it does at an EXECUTING one, and leaves its own port; DETACH is agent 0's
and names another agent. -/
theorem Command.run_windowCut (own : c = .detach → n = 0) :
    c.run n ps (s.windowCut n) = ((c.run n ps s).1.windowCut n, (c.run n ps s).2) ∧
      (c.run n ps s).1.port n = s.port n := by
  by_cases detach : c = .detach
  · obtain rfl := own detach
    subst detach
    simp only [Command.run, State.detach]
    cases agentField ps[0] 0 with
    | none => exact ⟨rfl, rfl⟩
    | some m =>
      by_cases zero : m = 0
      · simp only [if_pos zero]
        exact ⟨rfl, rfl⟩
      · simp only [if_neg zero]
        obtain ⟨cut, kept⟩ := State.detachEvent_windowCut (s := s) zero
        exact ⟨congrArg granted cut, kept⟩
  · have blind := Command.run_blind detach n ps s
    refine ⟨blind.windowCut, ?_⟩
    rw [State.port, State.port, blind.ports]

/-! ### The DONE cause -/

/-- The DONE cause of each agent stands. -/
def State.KeepsDone (s t : State) : Prop := ∀ m, Cause.done.isIn (t.profile m).status = Cause.done.isIn (s.profile m).status

theorem State.KeepsDone.refl : s.KeepsDone s := fun _ => rfl

theorem State.KeepsDone.of_touches {L : List Aspect} (h : s.Touches L t) (apart : .causes ∉ L) : s.KeepsDone t :=
  fun m => by
    obtain ⟨status, -⟩ := h .causes apart m
    rw [status]

theorem State.KeepsDone.raise (h : s.KeepsDone t) {x : Cause} (other : x ≠ .done) (k : AgentId) :
    s.KeepsDone (t.raise x k) := fun m => by
  by_cases same : k = m
  · subst same
    rw [t.raise_profile_self x k, Cause.isIn_or, Cause.isIn_mask, decide_eq_false other.symm, Bool.or_false]
    exact h k
  · rw [t.raise_profile_ne x same]
    exact h m

theorem Command.run_keepsDone (c : Command) (n : AgentId) (ps : Vector Word 8) (s : State) :
    s.KeepsDone (c.run n ps s).1 := by
  have kept : ∀ c : Command, .causes ∉ c.footprint → s.KeepsDone (c.run n ps s).1 := fun c apart =>
    .of_touches (c.run_touches n ps s) apart
  have active : ∀ i v, s.KeepsDone (s.setActive i v) := fun i v => .of_touches (s.setActive_touches i v) (by decide)
  cases c with
  | revoke =>
    simp only [Command.run, State.revoke]
    split
    · exact .refl
    · exact (State.KeepsDone.of_touches (s.retire_touches _) (by decide)).raise (by decide) _
  | offer =>
    simp only [Command.run, State.offer]
    split
    · exact .refl
    · refine State.check_of .refl fun _ => ?_
      split
      · exact .refl
      · exact State.check_of .refl fun _ => State.check_of .refl fun _ => (active _ _).raise (by decide) _
  | accept =>
    simp only [Command.run, State.accept]
    split
    · exact .refl
    · exact State.check_of .refl fun _ => State.check_of .refl fun _ => State.check_of .refl fun _ =>
        State.check_of .refl fun _ => (active _ _).raise (by decide) _
  | decline =>
    simp only [Command.run, State.decline]
    split
    · exact .refl
    · exact State.check_of .refl fun _ => (active _ _).raise (by decide) _
  | fault =>
    intro m
    simp only [Command.run, State.readFault, State.setProfile_profile]
    split
    next same => rw [same]
    next => rfl
  | _ => exact kept _ (by decide)

/-! ### The completion -/

/-- What a command does and answers, with R53's checks where they are not its own. -/
def Command.checkedRun (c : Command) (n : AgentId) (ps : Vector Word 8) (s : State) : State × Reply :=
  if c = .acquire then c.run n ps s
  else
    match s.admission c n with
    | some st => refuse s st
    | none => c.run n ps s

theorem State.completion_eq (s : State) (c : Command) : s.completion c = s.completeWith c c.checkedRun := by
  cases c <;> rfl

/-- What R53's checks leave of a command has what a refusal has and what its own run has, where that is admitted. -/
theorem Command.checkedRun_of {P : State × Reply → Prop} (refused : ∀ st, P (refuse s st))
    (run : (c = .detach → n = 0) → P (c.run n ps s)) : P (c.checkedRun n ps s) := by
  unfold Command.checkedRun
  split
  next acquire => exact run fun detach => by rw [acquire] at detach; cases detach
  next =>
    split
    · exact refused _
    next admitted =>
      refine run fun detach => Classical.byContradiction fun other => ?_
      rw [s.admission_of_supervisor (by rw [detach]; rfl) other] at admitted
      cases admitted

theorem Command.checkedRun_windowCut :
    c.checkedRun n ps (s.windowCut n) = ((c.checkedRun n ps s).1.windowCut n, (c.checkedRun n ps s).2) := by
  have admission : (s.windowCut n).admission c n = s.admission c n := rfl
  unfold Command.checkedRun
  rw [admission]
  split
  next acquire => exact (Command.run_windowCut fun detach => by rw [acquire] at detach; cases detach).1
  next =>
    cases e : s.admission c n with
    | some st => rfl
    | none =>
      refine (Command.run_windowCut fun detach => Classical.byContradiction fun other => ?_).1
      rw [s.admission_of_supervisor (by rw [detach]; rfl) other] at e
      cases e

/-- What a completion does and answers, be its window EXECUTING or DETACHING. -/
theorem State.completion_windowCut (h : s.Executes n c ps) :
    ∃ (t : State) (r : Reply), s.completion c = t.answered n c.code r ∧
      (s.windowCut n).completion c = (t.windowCut n).setJob none ∧ t.port n = s.port n ∧ s.KeepsDone t := by
  obtain ⟨job, executing⟩ := h
  have cutJob : (s.windowCut n).manager.job = some (.command n c.code ps) := job
  have port : (c.checkedRun n ps s).1.port n = s.port n :=
    Command.checkedRun_of (P := fun x => x.1.port n = s.port n) (fun _ => rfl) fun own =>
      (Command.run_windowCut own).2
  refine ⟨(c.checkedRun n ps s).1, (c.checkedRun n ps s).2, ?_, ?_, port,
    Command.checkedRun_of (P := fun x => s.KeepsDone x.1) (fun _ => .refl) fun _ => c.run_keepsDone n ps s⟩
  · rw [s.completion_eq, s.completeWith_of_job _ job]
    exact State.respond_answered _ _ _ (by rw [port, executing])
  · rw [State.completion_eq, State.completeWith_of_job _ _ cutJob, Command.checkedRun_windowCut]
    refine State.respond_discarded _ _ _ ?_
    rw [State.setJob_port, State.windowCut_port_self]
    exact WindowState.noConfusion

end

/-- Settles O27: beside the response, the two completions leave the same. -/
theorem detachedResponseIsDiscarded : Obligations.DetachedResponseIsDiscarded := by
  refine ⟨fun s n code ps unknown job detaching => ?_, fun s t n c ps executes h => ?_⟩
  · rw [exec_badCmd unknown job]
    refine congrArg Host.Outcome.next (State.respond_discarded _ _ _ ?_)
    rw [State.setJob_port, detaching]
    exact WindowState.noConfusion
  · obtain ⟨u, r, answered, cut, port, done⟩ := State.completion_windowCut executes
    have e : t = u.answered n c.code r := by
      rw [exec_completion, answered] at h
      cases h
      rfl
    subst e
    refine ⟨(u.windowCut n).setJob none, ?_, ?_, fun k other => ?_, done n, rfl, rfl, rfl, rfl, rfl, rfl, rfl, rfl, rfl, rfl⟩
    · rw [exec_completion]
      exact congrArg Host.Outcome.next cut
    · rw [State.setJob_port, State.windowCut_port_self, port]
    · rw [State.setJob_port, State.windowCut_port_ne other, State.answered, State.raise_port, State.setPort_port,
        if_neg other.symm, State.setJob_port]

end Sys2Proof.Machine
end

section
/-! SUPPORT. What the Lease Manager takes, and a step of the re-examination pass (R50, R89 to R92). -/

namespace Sys2Proof.Machine

/-! ## The order of the ports -/

theorem portsAfter_eq (p : AgentId) : portsAfter p = (List.range 6).map fun k => Fin.ofNat 6 (p.val + 1 + k) := by
  revert p
  decide

/-- A search from the port after p onward answers the first port that passes. -/
theorem findSome?_portsAfter {α : Type} {f : AgentId → Option α} {p n : AgentId} {k : Nat} {b : α} (bound : k < 6)
    (named : n = Fin.ofNat 6 (p.val + 1 + k)) (here : f n = some b)
    (before : ∀ j < k, f (Fin.ofNat 6 (p.val + 1 + j)) = none) : (portsAfter p).findSome? f = some b := by
  have length : (portsAfter p).length = 6 := rfl
  have at_k : (portsAfter p)[k]'(by rw [length]; exact bound) = n := by
    simp only [portsAfter_eq, List.getElem_map, List.getElem_range, named]
  refine List.findSome?_eq_some_iff.mpr ⟨(portsAfter p).take k, n, (portsAfter p).drop (k + 1), ?_, here, fun m hm => ?_⟩
  · rw [← at_k, ← List.drop_eq_getElem_cons, List.take_append_drop]
  · rw [portsAfter_eq, ← List.map_take, List.take_range, Nat.min_eq_left (Nat.le_of_lt bound)] at hm
    obtain ⟨j, hj, rfl⟩ := List.mem_map.mp hm
    exact before j (List.mem_range.mp hj)

/-! ## LM_TAKE -/

theorem State.nextWindow_of_first {s : State} {n : AgentId} {k : Nat} (bound : k < 6)
    (named : n = Fin.ofNat 6 (s.manager.pointer.val + 1 + k)) (pending : (s.port n).window = .pending)
    (before : ∀ j < k, (s.port (Fin.ofNat 6 (s.manager.pointer.val + 1 + j))).window ≠ .pending) :
    s.nextWindow = some n := by
  have found : (portsAfter s.manager.pointer).findSome? (Option.guard fun n => (s.port n).window == .pending) = some n :=
    findSome?_portsAfter bound named (Option.guard_eq_some_iff.mpr ⟨rfl, beq_iff_eq.mpr pending⟩) fun j hj =>
      Option.guard_eq_none_iff.mpr (beq_eq_false_iff_ne.mpr (before j hj))
  rwa [← List.find?_eq_findSome?_guard] at found

theorem State.nextWindow_of_none {s : State} (h : ∀ n, (s.port n).window ≠ .pending) : s.nextWindow = none :=
  List.find?_eq_none.mpr fun n _ pending => h n (beq_iff_eq.mp pending)

section
variable {s : State} (free : s.manager.job = none)
include free

theorem exec_lmTake_of_list {n : AgentId} {rest : List AgentId} (list : s.manager.list = n :: rest) :
    exec .lmTake s = .next (s.takeTeardown n rest) := by
  have e : exec .lmTake s = execLmTake s := rfl
  rw [e, execLmTake, free, list]

theorem exec_lmTake_of_flag (list : s.manager.list = []) (flag : s.manager.reexamine = true) :
    exec .lmTake s = .next s.takePass := by
  have e : exec .lmTake s = execLmTake s := rfl
  simp only [e, execLmTake, free, list, flag, if_true]

theorem exec_lmTake_of_window (list : s.manager.list = []) (flag : s.manager.reexamine = false) :
    (s.nextWindow = none → exec .lmTake s = .next s) ∧
      ∀ n, s.nextWindow = some n → exec .lmTake s = .next (s.takeWindow n) := by
  have e : exec .lmTake s = execLmTake s := rfl
  refine ⟨fun next => ?_, fun n next => ?_⟩
  all_goals simp only [e, execLmTake, free, list, flag, next, Bool.false_eq_true, if_false]

end

theorem State.takePass_eq (s : State) : s.takePass = { s with
    manager := { s.manager with
      job := if s.waits.order = [] then none else some (.pass s.waits.order)
      reexamine := false } } := by
  have job : ((s.setReexamine false).setJob (some (.pass s.waits.order))).manager.job = some (.pass s.waits.order) := rfl
  have ends := State.endPassIfDone_of_pass job
  rw [State.takePass, State.endPassIfDone_eq, ends]
  have waiting : (∃ v ∈ s.waits.order, v ∈ s.waits.order) ↔ ¬s.waits.order = [] := by
    simp only [and_self, List.eq_nil_iff_forall_not_mem, Classical.not_forall_not]
  have same : (if ∃ v ∈ s.waits.order, v ∈ s.waits.order then some (Job.pass s.waits.order) else none) =
      if s.waits.order = [] then none else some (.pass s.waits.order) := by
    simp only [waiting, ite_not]
  exact congrArg (fun j => { s with manager := { s.manager with job := j, reexamine := false } }) same

/-- Settles O22. -/
theorem takeInOrderOfPriority : Obligations.TakeInOrderOfPriority := by
  refine fun s => ⟨fun busy => ?_, fun free => ⟨fun n rest list => ?_, fun list flag => ?_, fun list flag =>
    ⟨fun none_ => ?_, fun k n bound named pending before => ?_⟩⟩⟩
  · have e : exec .lmTake s = execLmTake s := rfl
    obtain ⟨j, job⟩ := Option.ne_none_iff_exists'.mp busy
    rw [e, execLmTake, job]
  · exact exec_lmTake_of_list free list
  · rw [exec_lmTake_of_flag free list flag, s.takePass_eq]
  · exact (exec_lmTake_of_window free list flag).1 (State.nextWindow_of_none none_)
  · exact (exec_lmTake_of_window free list flag).2 n (State.nextWindow_of_first bound named pending before)

/-! ## PASS_STEP -/

section
variable {s : State} {w : WaitId} {g : BitVec 4} {n : AgentId} {q : Request} {d : Option Nat}

theorem State.overtakes_iff : s.overtakes w q.range = true ↔
    ∃ v ∈ s.waits.order.takeWhile (· ≠ w), ∃ m p x, (s.wait v).body = .waiting m p x ∧
      p.range.overlaps q.range = true := by
  have before : (fun v : WaitId => v != w) = fun v => decide (v ≠ w) := by
    funext v
    rw [bne, Bool.beq_eq_decide_eq, decide_not]
  simp only [State.overtakes, List.any_eq_true, before]
  refine exists_congr fun v => and_congr_right fun _ => ?_
  cases (s.wait v).body with
  | waiting m p x => exact ⟨fun meets => ⟨m, p, x, rfl, meets⟩, fun ⟨_, _, _, eq, meets⟩ => by cases eq; exact meets⟩
  | _ => exact ⟨nofun, fun ⟨_, _, _, eq, _⟩ => nomatch eq⟩

theorem State.grantable_iff : s.grantable w n q = true ↔
    s.NoConflict q ∧ s.overtakes w q.range = false ∧ s.WithinQuota n q.range ∧ s.NoSelfOverlap n q.range := by
  have conflict := s.conflicts_iff q
  have quota := s.overQuota_iff n q.range
  have self := s.selfOverlaps_iff n q.range
  simp only [State.grantable, Bool.and_eq_true, Bool.not_eq_true', ← Bool.not_eq_true, conflict, quota, self,
    Classical.not_not, and_assoc]

section
variable (body : s.wait w = { gen := g, body := .waiting n q d })
include body

theorem State.examine_of_waiting : s.examine w =
    if !(s.profile n).enabled then s.resolveWait w .denied
    else if s.guardedFor n q.range then s.resolveWait w .guarded
    else if s.grantable w n q then
      match s.firstFree with
      | some i => (s.allocate i n q).resolveWait w (.granted (s.nextHandle i))
      | none => s
    else s := by
  simp only [State.examine, body] <;> rfl

theorem State.examine_of_disabled (disabled : (s.profile n).enabled = false) :
    s.examine w = s.resolveWait w .denied := by
  rw [State.examine_of_waiting body, if_pos (by rw [disabled]; rfl)]

variable (enabled : (s.profile n).enabled = true)
include enabled

theorem State.examine_of_guarded (guarded : ¬s.Unguarded n q.range) : s.examine w = s.resolveWait w .guarded := by
  rw [State.examine_of_waiting body, if_neg (by rw [enabled]; decide), if_pos ((s.guardedFor_iff _ _).mpr guarded)]

theorem State.examine_of_unguarded (clear : s.Unguarded n q.range) : s.examine w =
    if s.grantable w n q then
      match s.firstFree with
      | some i => (s.allocate i n q).resolveWait w (.granted (s.nextHandle i))
      | none => s
    else s := by
  rw [State.examine_of_waiting body, if_neg (by rw [enabled]; decide),
    if_neg fun guarded => (s.guardedFor_iff _ _).mp guarded clear]

end

/-- Beside the entries, the Wait List and the profiles, an examination leaves everything. -/
theorem State.examine_rest (s : State) (w : WaitId) : s.examine w =
    { s with leases := (s.examine w).leases, waits := (s.examine w).waits, profiles := (s.examine w).profiles } := by
  have resolves : ∀ (t : State) o, t.resolveWait w o =
      { t with
        leases := (t.resolveWait w o).leases
        waits := (t.resolveWait w o).waits
        profiles := (t.resolveWait w o).profiles } := fun t o => by
    unfold State.resolveWait
    split <;> rfl
  unfold State.examine
  split
  next n q d _ =>
    split
    · exact resolves s _
    · split
      · exact resolves s _
      · split
        · split
          · exact (resolves _ _).trans rfl
          · rfl
        · rfl
  all_goals rfl

end

theorem exec_passStep {s : State} {gone rest : List WaitId} {w : WaitId}
    (job : s.manager.job = some (.pass (gone ++ w :: rest))) (resolved : ∀ v ∈ gone, v ∉ s.waits.order)
    (waits : w ∈ s.waits.order) :
    exec .passStep s = .next ((s.examine w).setJob (some (.pass rest))).endPassIfDone := by
  have next : (gone ++ w :: rest).dropWhile (fun w => !s.waits.order.contains w) = w :: rest := by
    rw [List.dropWhile_append_of_pos fun v hv => ?_, List.dropWhile_cons_of_neg ?_]
    · rw [List.contains_iff_mem.mpr waits]; decide
    · rw [Bool.not_eq_true', Bool.eq_false_iff]
      exact fun h => resolved v hv (List.contains_iff_mem.mp h)
  have e : exec .passStep s = execPassStep s := rfl
  simp only [e, execPassStep, job, next]

/-- Settles O23. -/
theorem passStepExaminesOneEntry : Obligations.PassStepExaminesOneEntry := by
  intro s gone rest w g n q d job resolved waits body
  -- what the step leaves, by what its examination leaves
  have left : ∃ t, exec .passStep s = .next t ∧
      t.manager = { s.manager with job := if ∃ v ∈ rest, v ∈ t.waits.order then some (.pass rest) else none } ∧
      t.leases = (s.examine w).leases ∧ t.waits = (s.examine w).waits ∧ t.profiles = (s.examine w).profiles ∧
      t.ports = s.ports ∧ t.guards = s.guards ∧ t.scrub = s.scrub ∧ t.timebase = s.timebase ∧
      t.phases = s.phases ∧ t.memPort = s.memPort ∧ t.sram = s.sram := by
    have job' : ((s.examine w).setJob (some (.pass rest))).manager.job = some (.pass rest) := rfl
    have outside := State.endPassIfDone_eq ((s.examine w).setJob (some (.pass rest)))
    rw [State.endPassIfDone_of_pass job'] at outside
    refine ⟨_, exec_passStep job resolved waits, ?_⟩
    rw [outside, s.examine_rest w]
    exact ⟨rfl, rfl, rfl, rfl, rfl, rfl, rfl, rfl, rfl, rfl, rfl⟩
  obtain ⟨t, step, manager, leases, waiting, profiles, ports, guards, scrub, timebase, phases, memPort, sram⟩ := left
  refine ⟨t, step, manager, ports, guards, scrub, timebase, phases, memPort, sram, fun o outcome => ?_,
    fun enabled clear => ⟨fun ⟨conflict, quota, self, first⟩ i free => ?_, fun blocked => ?_⟩⟩
  · have ends : s.examine w = s.resolveWait w o := by
      rcases outcome with ⟨rfl, disabled⟩ | ⟨rfl, enabled, guarded⟩
      · exact State.examine_of_disabled body disabled
      · exact State.examine_of_guarded body enabled guarded
    rw [leases, waiting, profiles, ends, State.resolveWait_of_waiting s body]
    exact ⟨rfl, rfl, rfl⟩
  · have turn : s.overtakes w q.range = false := by
      refine Bool.eq_false_iff.mpr fun overtakes => ?_
      obtain ⟨v, hv, m, p, x, request, meets⟩ := State.overtakes_iff.mp overtakes
      rw [first v hv m p x request] at meets
      cases meets
    have grants : s.examine w = (s.allocate i n q).resolveWait w (.granted (s.nextHandle i)) := by
      rw [State.examine_of_unguarded body enabled clear,
        if_pos (State.grantable_iff.mpr ⟨conflict, turn, quota, self⟩), State.firstFree_of_lowest s free]
    have body' : (s.allocate i n q).wait w = { gen := g, body := .waiting n q d } := body
    rw [leases, waiting, profiles, grants, State.resolveWait_of_waiting _ body']
    exact ⟨rfl, rfl, rfl⟩
  · have stays : s.examine w = s := by
      rw [State.examine_of_unguarded body enabled clear]
      by_cases grantable : s.grantable w n q = true
      · obtain ⟨conflict, turn, quota, self⟩ := State.grantable_iff.mp grantable
        rcases blocked with h | h | h | h | full
        · exact absurd conflict h
        · exact absurd quota h
        · exact absurd self h
        · rw [State.overtakes_iff.mpr h] at turn
          cases turn
        · rw [if_pos grantable, State.firstFree_of_none s full]
      · rw [if_neg grantable]
    rw [leases, waiting, profiles, stays]
    exact ⟨rfl, rfl, rfl⟩

end Sys2Proof.Machine
end

section
/-! SUPPORT. A fault report at its latch (R40, R42), and the Memory Port's decisions (R181). -/

namespace Sys2Proof.Machine

/-! ## FAULT_REPORT -/

theorem exec_faultReport {s : State} {n : AgentId} {r : FaultReport} {rest : List FaultReport}
    (oldest : (s.port n).reports = r :: rest) :
    exec (.faultReport n) s = .next ((s.setPort n { s.port n with reports := rest }).takeReport n r) := by
  have e : exec (.faultReport n) s = execFaultReport n s := rfl
  simp only [e, execFaultReport, oldest]

theorem State.takeReport_of_empty {s : State} {n : AgentId} {r : FaultReport} (empty : (s.profile n).latch = none) :
    s.takeReport n r = s.setProfile n
      { s.profile n with
        latch := some { info := r.info, reason := r.reason, further := 0 }
        status := (s.profile n).status ||| 0x080 } := by
  simp only [State.takeReport, empty]
  rfl

theorem State.takeReport_of_valid {s : State} {n : AgentId} {r : FaultReport} {x : Latch}
    (valid : (s.profile n).latch = some x) :
    s.takeReport n r = s.setProfile n
      { s.profile n with
        latch := some { x with further := x.further ||| r.reason.member }
        status := (s.profile n).status ||| 0x080 } := by
  simp only [State.takeReport, valid]
  rfl

/-- Settles O15. -/
theorem faultReportAtLatch : Obligations.FaultReportAtLatch := by
  refine fun s n r rest oldest => ⟨fun empty => ?_, fun x k valid code => ?_⟩
  · have empty' : ((s.setPort n { s.port n with reports := rest }).profile n).latch = none := empty
    rw [exec_faultReport oldest, State.takeReport_of_empty empty']
    rfl
  · have valid' : ((s.setPort n { s.port n with reports := rest }).profile n).latch = some x := valid
    have member : r.reason.member = 1#7 <<< (k - 1) := by
      rcases code with ⟨e, rfl⟩ | ⟨e, rfl⟩ | ⟨e, rfl⟩ | ⟨e, rfl⟩ | ⟨e, rfl⟩ | ⟨e, rfl⟩ | ⟨e, rfl⟩
      all_goals rw [e]; decide
    rw [exec_faultReport oldest, State.takeReport_of_valid valid', member]
    rfl

/-! ## MEMORY_GRANT -/

theorem exec_memoryGrant (s : State) : exec .memoryGrant s = .next (s.setMemPort s.memPort.decide) := rfl

/-- The words and their ends stand while no word is in progress (R182). -/
theorem exec_of_noWord {s : State} (none_ : s.memPort.wordInProgress = none) {e : Instr}
    (h : e = .mack ∨ e = .merr false ∨ e = .merr true ∨ e = .acknowledgeTimeout) : exec e s = .next s := by
  have ended : exec e s = .next s.wordDone ∨ exec e s = .next s.wordFailed := by
    rcases h with rfl | rfl | rfl | rfl
    · exact .inl rfl
    all_goals exact .inr rfl
  rw [State.wordDone_of_noWord none_, State.wordFailed_of_noWord none_, or_self] at ended
  exact ended

theorem MemoryPort.wordInProgress_none {m : MemoryPort} (h : m.grant = none ∨ m.strobe = none) :
    m.wordInProgress = none := h.elim wordInProgress_of_noGrant wordInProgress_of_noStrobe

theorem MemoryPort.wordInProgress_of_grant {m : MemoryPort} {g : Grant} (grant : m.grant = some g)
    (strobe : m.strobe ≠ none) : m.wordInProgress = some g := (wordInProgress_of_strobe strobe).trans grant

theorem MemoryPort.nextAgent_of_first {m : MemoryPort} {n : AgentId} {a : Access} {k : Nat} (bound : k < 6)
    (named : n = Fin.ofNat 6 (m.pointer.val + 1 + k)) (request : m.requests[n] = some a)
    (before : ∀ j < k, m.requests[Fin.ofNat 6 (m.pointer.val + 1 + j)] = none) : m.nextAgent = some (n, a) :=
  findSome?_portsAfter bound named (by rw [request]; rfl) fun j hj => by rw [before j hj]; rfl

/-- Settles O16. -/
theorem grantDecision : Obligations.GrantDecision := by
  refine fun s => ⟨fun h e => exec_of_noWord (MemoryPort.wordInProgress_none h), fun busy => ?_,
    fun free due => ⟨fun c chunk h => ?_, fun k n a bound named request before h => ?_⟩,
    fun free => ⟨fun n a due request => ?_, fun c due chunk => ?_⟩⟩
  all_goals rw [exec_memoryGrant]
  · obtain ⟨g, grant⟩ := Option.ne_none_iff_exists'.mp busy
    rw [MemoryPort.decide_of_grant grant]
    rfl
  · rw [MemoryPort.decide_endOfGrant free due]
    rcases h with alone | credit
    · rw [MemoryPort.decideAll_chunk_alone chunk (MemoryPort.agentWaiting_false.mpr alone)]
      rfl
    · rw [MemoryPort.decideAll_chunk_credit chunk credit]
      rfl
  · rw [MemoryPort.decide_endOfGrant free due,
      MemoryPort.decideAll_agent (MemoryPort.nextAgent_of_first bound named request before) h]
    cases chunk : s.memPort.chunk with
    | none => simp only [MemoryPort.grantAgent, Option.isSome_none, Bool.false_eq_true, if_false, if_true, chunk]
    | some c => simp only [MemoryPort.grantAgent, Option.isSome_some, if_true, reduceCtorEq, if_false, chunk]
  · rw [MemoryPort.decide_agentArrival free due request]
    rfl
  · rw [MemoryPort.decide_chunkArrival free due chunk]
    rfl

end Sys2Proof.Machine
end

section
/-! SUPPORT. The AGRSTn lines and RESET (R172, R174, R178, R185). -/

namespace Sys2Proof.Machine

/-! ## AGRST_ASSERT and AGRST_RELEASE -/

theorem exec_agrstAssert (s : State) (n : AgentId) : exec (.agrstAssert n) s = execAgrstAssert n s := rfl

theorem exec_agrstRelease (s : State) (n : AgentId) : exec (.agrstRelease n) s = execAgrstRelease n s := rfl

theorem State.setLine_port (s : State) (n : AgentId) (b : Bool) :
    (s.setLine n b).port n = { s.port n with agrst := b } := by rw [State.setLine, State.setPort_port, if_pos rfl]

/-- Settles O7. -/
theorem resetLinesOfTheAgents : Obligations.ResetLinesOfTheAgents := by
  refine fun s n => ⟨fun on => ?_, fun off => ?_, fun off => ⟨fun quiet => ?_, fun running attached => ?_⟩,
    fun on => ⟨fun detaching list job => ?_, fun keeps => ?_⟩⟩
  · rw [exec_agrstAssert, execAgrstAssert, if_pos on]
  · rw [exec_agrstRelease, execAgrstRelease, if_neg (by rw [off]; decide)]
  · rw [exec_agrstAssert, execAgrstAssert, if_neg (by rw [off]; decide)]
    by_cases reset : s.resetAsserted = true
    · rw [if_pos reset]
      rfl
    · have detaching : ((s.setLine n true).port n).window = .detaching := by
        rw [s.setLine_port]
        exact quiet.resolve_left reset
      rw [if_neg reset, (s.setLine n true).detachEvent_of_detaching detaching]
      rfl
  · have attached' : ((s.setLine n true).port n).window ≠ .detaching := by rwa [s.setLine_port]
    rw [exec_agrstAssert, execAgrstAssert, if_neg (by rw [off]; decide), if_neg (by rw [running]; decide),
      (s.setLine n true).detachEvent_of_attached attached', s.setLine_port, State.setLine, State.setPort_setPort]
    simp only [busErrorFor_eq] <;> rfl
  all_goals
    have line : ((s.setLine n false).port n).window = (s.port n).window := by rw [s.setLine_port]
    have teardown := (s.setLine n false).noTeardown_iff n
    rw [exec_agrstRelease, execAgrstRelease, if_pos on]
  · rw [if_pos ⟨line.trans detaching, teardown.mpr ⟨list, job⟩⟩, s.setLine_port, State.setLine, State.setPort_setPort]
  · have stays : ¬(((s.setLine n false).port n).window = .detaching ∧ (s.setLine n false).noTeardown n = true) := by
      rintro ⟨window, none_⟩
      obtain ⟨list, job⟩ := teardown.mp none_
      rcases keeps with h | h | h
      · exact h (line.symm.trans window)
      · exact list h
      · exact job h
    rw [if_neg stays]
    rfl

/-! ## RESET_RELEASE -/

/-- In t the lines of the ports D, and no others, have been read since the release of RESET at s, in their order. -/
def State.HasRead (s : State) (D : List AgentId) (t : State) : Prop :=
  t = { s with
      ports := t.ports
      resetAsserted := false
      manager := { s.manager with list := D.filter fun n => (s.port n).agrst } } ∧
    ∀ n, t.port n = if n ∈ D ∧ (s.port n).agrst = true then { s.port n with window := .detaching } else s.port n

section
variable {s t : State} {D : List AgentId} (idle : ∀ n, (s.port n).window = .idle ∧ (s.port n).marker = none)
include idle

omit idle in
theorem State.HasRead.again (h : s.HasRead D t) {n : AgentId} (mem : n ∈ D) : t.readLine n = t := by
  obtain ⟨-, ports⟩ := h
  unfold State.readLine
  split
  next on =>
    refine t.detachEvent_of_detaching ?_
    by_cases line : (s.port n).agrst = true
    · rw [ports n, if_pos ⟨mem, line⟩]
    · rw [ports n, if_neg (fun h => line h.2)] at on
      exact absurd on line
  next => rfl

theorem State.HasRead.next (h : s.HasRead D t) {n : AgentId} (fresh : n ∉ D) : s.HasRead (D ++ [n]) (t.readLine n) := by
  obtain ⟨rest, ports⟩ := h
  have port : t.port n = s.port n := (ports n).trans (if_neg fun h => fresh h.1)
  obtain ⟨window, marker⟩ := idle n
  have others : ∀ m, m ≠ n → (m ∈ D ++ [n] ↔ m ∈ D) := fun m ne => by simp [ne]
  cases line : (s.port n).agrst with
  | false =>
    have stays : t.readLine n = t := by rw [State.readLine, port, line, if_neg Bool.false_ne_true]
    rw [stays]
    refine ⟨?_, fun m => ?_⟩
    · rw [List.filter_append, List.filter_cons_of_neg (by rw [line]; decide), List.filter_nil, List.append_nil]
      exact rest
    · by_cases same : m = n
      · rw [same, port, if_neg (by rw [line]; simp)]
      · rw [ports m]
        simp only [others m same]
  | true =>
    have list : t.manager.list = D.filter fun n => (s.port n).agrst := by rw [rest]
    have reads : t.readLine n = (t.setPort n { s.port n with window := .detaching }).setJobList (t.manager.list ++ [n]) := by
      rw [State.readLine, port, line, if_pos rfl, t.detachEvent_of_attached (by rw [port, window]; decide), port, marker]
      have same : ({ s.port n with window := .detaching } : Port) =
        { s.port n with window := .detaching, marker := none } := by rw [← marker]
      rw [same]
      rfl
    rw [reads, list]
    refine ⟨?_, fun m => ?_⟩
    · have joined : (D ++ [n]).filter (fun n => (s.port n).agrst) = D.filter (fun n => (s.port n).agrst) ++ [n] := by
        rw [List.filter_append, List.filter_cons_of_pos (p := fun n => (s.port n).agrst) line, List.filter_nil]
      rw [joined]
      generalize D.filter (fun n => (s.port n).agrst) = read at rest
      rw [rest]
      rfl
    · rw [State.setJobList_port, State.setPort_port]
      by_cases same : n = m
      · subst same
        rw [if_pos rfl, if_pos ⟨by simp, line⟩]
      · rw [if_neg same, ports m]
        simp only [others m (Ne.symm same)]

/-- A walk over the lines reads those that have not been read. -/
theorem State.HasRead.walk : ∀ (l : List AgentId), l.Nodup → ∀ {D : List AgentId} {t : State}, s.HasRead D t →
    s.HasRead (D ++ l.filter fun n => !D.contains n) (l.foldl State.readLine t)
  | [], _, D, t, h => by rwa [List.filter_nil, List.append_nil]
  | n :: l, nodup, D, t, h => by
    obtain ⟨fresh, nodup⟩ := List.nodup_cons.mp nodup
    rw [List.foldl_cons]
    by_cases mem : n ∈ D
    · rw [h.again mem, List.filter_cons_of_neg (by simp [mem])]
      exact walk l nodup h
    · have walked := walk l nodup (h.next idle mem)
      have tail : (l.filter fun m => !(D ++ [n]).contains m) = l.filter fun m => !D.contains m := by
        refine List.filter_congr fun m hm => ?_
        have ne : m ≠ n := fun same => fresh (same ▸ hm)
        simp [ne]
      rw [tail, List.append_assoc] at walked
      rwa [List.filter_cons_of_pos (by simp [mem])]

end

theorem allAgents_nodup : allAgents.Nodup := by decide

/-- Settles O6. -/
theorem resetReleaseReadsEachLine : Obligations.ResetReleaseReadsEachLine := by
  intro s order asserted nodup list idle
  have none_ : s.HasRead [] { s with resetAsserted := false } := by
    refine ⟨?_, fun n => (if_neg fun h => ?_).symm⟩
    · rw [List.filter_nil, ← list]
    · cases h.1
  have first := State.HasRead.walk idle order nodup none_
  have all : (order.filter fun n => !([] : List AgentId).contains n) = order := List.filter_eq_self.mpr fun _ _ => rfl
  rw [all, List.nil_append] at first
  have whole := State.HasRead.walk idle allAgents allAgents_nodup first
  rw [← List.foldl_append] at whole
  have e : exec (.resetRelease order) s = .next ((order ++ allAgents).foldl State.readLine { s with resetAsserted := false }) :=
    if_pos asserted
  refine ⟨_, e, ?_⟩
  generalize (order ++ allAgents).foldl State.readLine { s with resetAsserted := false } = t at whole
  obtain ⟨rest, ports⟩ := whole
  refine ⟨by rw [rest], by rw [rest], fun n => ?_, ?_⟩
  · have read : n ∈ order ++ allAgents.filter fun n => !order.contains n := by
      by_cases mem : n ∈ order
      · exact List.mem_append_left _ mem
      · exact List.mem_append_right _ (List.mem_filter.mpr ⟨List.mem_finRange n, by simp [mem]⟩)
    simp only [ports n, read, true_and]
  · rw [rest]
    exact ⟨rfl, rfl, rfl, rfl, rfl, rfl, rfl, rfl, rfl, rfl, rfl⟩

/-! ## RESET_ASSERT -/

/-- The byte enables of an aligned access give its size back (R22). -/
theorem sizeOfLanes_lanes (a : AccessInfo) (aligned : a.addr.toNat % a.size.bytes = 0) :
    sizeOfLanes a.lanes = some a.size := by
  have below : a.addr.toNat % 4 < 4 := Nat.mod_lt _ (by decide)
  unfold AccessInfo.lanes
  cases size : a.size <;> rw [size] at aligned <;> simp only [Size.bytes] at aligned ⊢
  · generalize a.addr.toNat % 4 = k at below
    revert k
    decide
  · have even : a.addr.toNat % 4 = 0 ∨ a.addr.toNat % 4 = 2 := by omega
    rcases even with e | e <;> rw [e] <;> decide
  · rw [aligned]
    decide

theorem accessOf_cycle (a : Access) (aligned : a.info.addr.toNat % a.info.size.bytes = 0) :
    accessOf a.cycle = some a := by
  have kind : kindOf a.cycle = a.info.kind := by
    cases a with
    | mk i d => cases i with | mk addr size kind priv => cases kind <;> rfl
  have privilege : privilegeOf a.cycle = a.info.priv := by
    cases a with
    | mk i d => cases i with | mk addr size kind priv => cases priv <;> rfl
  rw [accessOf, kind, privilege]
  simp only [Access.cycle, sizeOfLanes_lanes a.info aligned, Option.map_some]

theorem State.forwarded_of_waiting {s : State} {n : AgentId} {a : Access}
    (h : s.memPort.requests[n] = some a ∨ s.memPort.requests[n] = none ∧ s.memPort.grant = some (.agent n a)) :
    s.forwarded n = some a := by
  rcases h with request | ⟨request, grant⟩
  · simp only [State.forwarded, request]
  · simp only [State.forwarded, request, grant, if_true]

/-- The word that RESET cuts is the write word in progress, if there is one (R185). -/
theorem State.cutWord_sramByte {s : State} {b : Nat}
    (agent : ∀ n a, s.memPort.grant = some (.agent n a) → a.info.kind = .dataWrite →
      b < a.info.addr.toNat / 4 * 4 ∨ a.info.addr.toNat / 4 * 4 + 3 < b)
    (chunk : ∀ c k, s.memPort.grant = some (.chunk c k) → s.memPort.strobe ≠ none →
      b < 4 * (c.wordLine k).toNat ∨ 4 * (c.wordLine k).toNat + 3 < b) : s.cutWord.sramByte b = s.sramByte b := by
  unfold State.cutWord MemoryPort.lines
  cases grant : s.memPort.grant with
  | none => rfl
  | some g =>
    cases g with
    | agent n a =>
      dsimp only
      split
      next write =>
        have kind : a.info.kind = .dataWrite := by
          obtain ⟨-, mwe⟩ := Bool.and_eq_true_iff.mp write
          cases k : a.info.kind with
          | dataWrite => rfl
          | dataRead => simp [Access.lines, k] at mwe
          | fetch => simp [Access.lines, k] at mwe
        refine State.sramByte_leaveWord s ?_
        have line : a.lines.ma = a.info.wordLine := by simp only [Access.lines, kind]
        rw [line, a.info.wordLine_toNat]
        exact agent n a grant kind
      next => rfl
    | chunk c k =>
      dsimp only
      split
      next write =>
        obtain ⟨strobe, -⟩ := Bool.and_eq_true_iff.mp write
        exact State.sramByte_leaveWord s (chunk c k grant (Option.isSome_iff_ne_none.mp strobe))
      next => rfl

/-- Beside the array and the count of free values, the cut changes nothing. -/
theorem State.cutWord_rest (s : State) : s.cutWord = { s with sram := s.cutWord.sram, freeIndex := s.cutWord.freeIndex } := by
  unfold State.cutWord
  split
  · split <;> rfl
  · rfl

theorem State.resetBlocks_port (s : State) (n : AgentId) : s.resetBlocks.port n =
    { Port.reset with agrst := (s.port n).agrst, held := s.openCycle n, heldWindow := (s.port n).heldWindow } := by
  simp only [State.port, State.resetBlocks, Fin.getElem_fin, Vector.getElem_ofFn]

theorem State.reset_port (n : AgentId) : State.reset.port n = Port.reset := by
  simp only [State.port, State.reset, Fin.getElem_fin, Vector.getElem_replicate]

theorem State.reset_status (n : AgentId) : (State.reset.profile n).status = 0 := by
  revert n
  decide

/-- Settles O5. -/
theorem resetAssertRestoresEveryBlock : Obligations.ResetAssertRestoresEveryBlock := by
  intro s
  have e : exec .resetAssert s = .next s.cutWord.resetBlocks := rfl
  have rest := s.cutWord_rest
  have sram : s.cutWord.resetBlocks.sram = s.cutWord.sram := rfl
  have port : ∀ n, s.cutWord.resetBlocks.port n =
      { Port.reset with agrst := (s.port n).agrst, held := s.openCycle n, heldWindow := (s.port n).heldWindow } := by
    intro n
    rw [State.resetBlocks_port, rest]
    rfl
  refine ⟨_, e, rfl, rfl, rfl, rfl, rfl, rfl, rfl, rfl, rfl, rfl, ?_, fun n => ?_, fun n => ?_, fun n c held => ?_,
    fun n held marker => ?_, fun n m held marker => ⟨fun discard => ?_, fun a discard waiting aligned => ?_⟩,
    fun b agent chunk => ?_⟩
  · show s.cutWord.pending = s.pending
    rw [rest]
  · have profile : s.cutWord.resetBlocks.profile n = State.reset.profile n := rfl
    rw [State.irqAsserted, profile, State.reset_status]
    exact bne_eq_false_iff_eq.mpr BitVec.zero_and
  · rw [port n, State.reset_port]
  · rw [port n]
    simp only [State.openCycle, held]
  · rw [port n]
    simp only [State.openCycle, held, marker]
  · rw [port n]
    simp only [State.openCycle, held, marker, discard, if_true]
  · refine ⟨a.cycle, ?_, accessOf_cycle a aligned⟩
    rw [port n]
    simp only [State.openCycle, held, marker, discard, Bool.false_eq_true, if_false, State.forwarded_of_waiting waiting,
      Option.map_some]
  · have byte : s.cutWord.resetBlocks.sramByte b = s.cutWord.sramByte b := rfl
    rw [byte, State.cutWord_sramByte agent chunk]

end Sys2Proof.Machine
end

section
/-! SUPPORT. The words of a command window, at a cycle that is taken and at one that RESET holds off (R43 to R49, R59,
R169 to R171, R185). -/

namespace Sys2Proof.Machine

/-! ## The rows of the words -/

/-- The cycles of the writes that have a row of their own, with the numbers of their words. -/
def rowWrite (n : AgentId) (v : Word) (k : Nat) (e : Instr) : Prop :=
  (∃ i : ParamId, e = .paramWrite n i v ∧ k = i.val) ∨ e = .commandWrite n v ∧ k = 8 ∨
    e = .intstatWrite n v ∧ k = 13 ∨ e = .intenWrite n v ∧ k = 14

/-- The port with no window cycle held off. -/
def Port.noneHeld (p : Port) : Port := { p with heldWindow := none }

/-- The port with its window answered. -/
def Port.answered (p : Port) (b : BusAnswer) : Port := { p with windowAnswer := some b }

section
variable {s : State} {n : AgentId}

/-- A row of its own is a write to its word. -/
theorem exec_rowWrite {v : Word} {k : Nat} {e : Instr} (h : rowWrite n v k e) :
    ∃ j : Fin 16, j.val = k ∧ exec e s = .next (s.presentWindow n (wordWrite j v) fun t =>
      (t.windowStore n j v).answerWindow n .acknowledge) := by
  rcases h with ⟨i, rfl, rfl⟩ | ⟨rfl, rfl⟩ | ⟨rfl, rfl⟩ | ⟨rfl, rfl⟩
  · refine ⟨i.castLE (by decide), rfl, ?_⟩
    have store : ∀ t : State, t.windowStore n (i.castLE (by decide)) v = t.setPort n ((t.port n).writeParam i v) :=
      fun t => t.windowStore_param n _ i.isLt v
    simp only [store] <;> rfl
  · exact ⟨8, rfl, rfl⟩
  · exact ⟨13, rfl, rfl⟩
  · exact ⟨14, rfl, rfl⟩

section
variable (running : s.resetAsserted = false)
include running

theorem exec_windowWrite (c : WindowCycle) : exec (.windowWrite n (.presented c)) s =
    .next ((s.setPort n (s.port n).noneHeld).windowCycle n c) :=
  congrArg Host.Outcome.next (s.presentWindow_taken n c _ running)

theorem exec_rowWrite_taken {v : Word} {k : Nat} {e : Instr} (h : rowWrite n v k e) :
    ∃ j : Fin 16, j.val = k ∧ exec e s = .next
      (((s.setPort n (s.port n).noneHeld).windowStore n j v).answerWindow n .acknowledge) := by
  obtain ⟨j, word, row⟩ := exec_rowWrite (s := s) h
  exact ⟨j, word, row.trans (congrArg Host.Outcome.next (s.presentWindow_taken n _ _ running))⟩

theorem exec_paramWrite (i : ParamId) (v : Word) : exec (.paramWrite n i v) s =
    .next (s.setPort n (((s.port n).noneHeld.writeParam i v).answered .acknowledge)) := by
  have e : exec (.paramWrite n i v) s = .next (s.presentWindow n _ _) := rfl
  rw [e, s.presentWindow_taken n _ _ running]
  simp only [State.answerWindow, State.setPort_setPort, State.setPort_port, if_true] <;> rfl

theorem exec_commandWrite (v : Word) : exec (.commandWrite n v) s =
    .next (s.setPort n (((s.port n).noneHeld.writeCommand v).answered .acknowledge)) := by
  have e : exec (.commandWrite n v) s = .next (s.presentWindow n _ _) := rfl
  rw [e, s.presentWindow_taken n _ _ running]
  simp only [State.answerWindow, State.setPort_setPort, State.setPort_port, if_true] <;> rfl

end

end

/-- Settles O8. -/
theorem parameterAndCommandWrites : Obligations.ParameterAndCommandWrites := by
  intro s n i v running
  rw [exec_paramWrite running, exec_commandWrite running]
  refine ⟨?_, ?_, fun detaching => ?_⟩
  · rintro (window | window)
    all_goals simp only [Port.writeParam, Port.writeCommand, Port.noneHeld, Port.answered, window, and_self]
  · rintro (window | window)
    all_goals simp only [Port.writeParam, Port.writeCommand, Port.noneHeld, Port.answered, window, and_self]
  · simp only [Port.writeParam, Port.writeCommand, Port.noneHeld, Port.answered, detaching, and_self]

end Sys2Proof.Machine
end

section
/-! SUPPORT. The interrupt words and line, and every cycle of a command window (R43 to R49, R59, R169 to R171, R185). -/

namespace Sys2Proof.Machine

/-! ## INTSTAT, INTEN and IRQn -/

/-- The bits of the level-like causes of agent n whose condition holds. -/
theorem State.levelHeld_getLsbD (s : State) (n : AgentId) (k : Nat) :
    (s.levelHeld n).getLsbD k =
      (k == 7 && (s.profile n).latch.isSome || k == 8 && (n == 0 && s.anyFaulted)) := by
  have fault : ∀ b : Bool, (if b then Cause.fault.mask else 0).getLsbD k = (k == 7 && b) := fun b => by
    cases b
    · simp
    · rw [if_pos rfl, Cause.mask_eq_twoPow, BitVec.getLsbD_twoPow]
      simp [Cause.bit, eq_comm, Bool.beq_eq_decide_eq]
  have fail : ∀ b : Bool, (if b then Cause.scrubFail.mask else 0).getLsbD k = (k == 8 && b) := fun b => by
    cases b
    · simp
    · rw [if_pos rfl, Cause.mask_eq_twoPow, BitVec.getLsbD_twoPow]
      simp [Cause.bit, eq_comm, Bool.beq_eq_decide_eq]
  have both : (n = 0 ∧ s.anyFaulted = true) ↔ (n == 0 && s.anyFaulted) = true := by simp
  rw [State.levelHeld, BitVec.getLsbD_or, fault]
  simp only [both, fail]

/-- A bit that a write of v to INTSTAT leaves (R170). -/
theorem State.clearedCauses_getLsbD (s : State) (n : AgentId) (v : Word) {k : Nat} (h : k < 9) :
    ((s.profile n).status &&& ~~~(v.extractLsb' 0 9 &&& ~~~s.levelHeld n)).getLsbD k =
      ((s.profile n).status.getLsbD k && (!v.getLsbD k || (s.levelHeld n).getLsbD k)) := by
  simp only [BitVec.getLsbD_and, BitVec.getLsbD_not, BitVec.getLsbD_extractLsb', h, decide_true, Bool.true_and,
    Nat.zero_add, Bool.not_and, Bool.not_not]

theorem State.irqAsserted_iff (s : State) (n : AgentId) : s.irqAsserted n = true ↔
    ∃ k < 9, (s.profile n).status.getLsbD k = true ∧ (s.profile n).enable.getLsbD k = true := by
  rw [State.irqAsserted, bne_iff_ne]
  refine ⟨fun some_ => Classical.byContradiction fun none_ => some_ (BitVec.eq_of_getLsbD_eq fun k hk => ?_), ?_⟩
  · rw [BitVec.getLsbD_and]
    exact (Bool.eq_false_iff.mpr fun set => none_ ⟨k, hk, Bool.and_eq_true_iff.mp set⟩).trans BitVec.getLsbD_zero.symm
  · rintro ⟨k, -, status, enable⟩ zero
    have set := congrArg (fun x => BitVec.getLsbD x k) zero
    simp [status, enable] at set

/-- What a write beside the ports leaves, with its answer. -/
theorem State.answerWindow_of_profile (s : State) (n : AgentId) (p : Port) (x : Profile) (b : BusAnswer) :
    ((s.setPort n p).setProfile n x).answerWindow n b = (s.setProfile n x).setPort n (p.answered b) := by
  have port : ((s.setPort n p).setProfile n x).port n = p := by
    rw [State.setProfile_port, State.setPort_port, if_pos rfl]
  rw [State.answerWindow, port]
  simp only [State.setPort, State.setProfile, Vector.set_set, Port.answered]

/-- Settles O10. -/
theorem interruptWordsAndLine : Obligations.InterruptWordsAndLine := by
  intro s n v running
  obtain ⟨j, word, inten⟩ := exec_rowWrite_taken (n := n) (v := v) running (.inr (.inr (.inr ⟨rfl, rfl⟩)))
  obtain rfl : j = 14 := Fin.ext word
  obtain ⟨j, word, intstat⟩ := exec_rowWrite_taken (n := n) (v := v) running (.inr (.inr (.inl ⟨rfl, rfl⟩)))
  obtain rfl : j = 13 := Fin.ext word
  refine ⟨?_, ⟨(s.profile n).status &&& ~~~(v.extractLsb' 0 9 &&& ~~~s.levelHeld n), ?_,
    fun k => ?_, ?_, ?_⟩, s.irqAsserted_iff n⟩
  · rw [inten, State.windowStore_inten, State.writeEnable, State.answerWindow_of_profile]
    rfl
  · rw [intstat, State.windowStore_intstat, State.clearCauses, State.answerWindow_of_profile]
    rfl
  · rw [State.clearedCauses_getLsbD _ n v (by omega)]
    have low : (s.levelHeld n).getLsbD k.val = false := by
      have below : k.val ≠ 7 ∧ k.val ≠ 8 := by omega
      rw [State.levelHeld_getLsbD, beq_false_of_ne below.1, beq_false_of_ne below.2]
      rfl
    rw [low, Bool.or_false]
  · rw [State.clearedCauses_getLsbD _ n v (by decide), State.levelHeld_getLsbD]
    simp only [BEq.rfl, Bool.true_and, Nat.reduceBEq, Bool.false_and, Bool.or_false]
  · rw [State.clearedCauses_getLsbD _ n v (by decide), State.levelHeld_getLsbD]
    simp only [BEq.rfl, Bool.true_and, Nat.reduceBEq, Bool.false_and, Bool.false_or]

/-! ## The fields of a word -/

theorem field_eq (w : Word) (lo len : Nat) : field w lo len = w.toNat / 2 ^ lo % 2 ^ len := by
  rw [field, BitVec.extractLsb'_toNat, Nat.shiftRight_eq_div_pow]

theorem bit_eq (w : Word) (k : Nat) : bit w k = decide (w.toNat / 2 ^ k % 2 = 1) := Nat.testBit_eq_decide_div_mod_eq

/-! ## Every window cycle -/

theorem isWord_iff (c : WindowCycle) :
    c.isWord = true ↔ c.be = 0xF ∧ c.addr.toNat % 4 = 0 ∧ c.bothSelects = false := by
  have low : c.addr.extractLsb' 0 2 = 0 ↔ c.addr.toNat % 4 = 0 := by
    rw [← BitVec.toNat_inj, BitVec.extractLsb'_toNat]
    rfl
  simp only [WindowCycle.isWord, Bool.and_eq_true, beq_iff_eq, Bool.not_eq_true', low, and_assoc]

theorem wordWrite_lines (k : Fin 16) (v : Word) : (wordWrite k v).addr.toNat = 4 * k.val ∧ (wordWrite k v).be = 0xF ∧
    (wordWrite k v).write = true ∧ (wordWrite k v).bothSelects = false ∧ (wordWrite k v).data = v := by
  refine ⟨?_, rfl, rfl, rfl, rfl⟩
  have small : 4 * k.val < 2 ^ 24 := by omega
  exact (BitVec.toNat_ofNat _ _).trans (Nat.mod_eq_of_lt small)

/-- The COMMAND word: its code, the state of its window, its overrun flag. -/
theorem commandWord_toNat (code : BitVec 8) (w : WindowState) (overrun : Bool) :
    (place 0 code.toNat ||| place 8 w.code ||| placeBit 16 overrun).toNat =
      code.toNat + w.code * 2 ^ 8 + overrun.toNat * 2 ^ 16 := by
  have codeFits : code.toNat < 256 := code.isLt
  have windowFits : w.code < 5 := by cases w <;> decide
  have flagFits : overrun.toNat < 2 := Bool.toNat_lt overrun
  have first : (place 0 code.toNat).toNat = code.toNat * 2 ^ 0 := toNat_place (by omega)
  have second : (place 0 code.toNat ||| place 8 w.code).toNat = code.toNat * 2 ^ 0 + w.code * 2 ^ 8 := by
    rw [toNat_or_place (by omega) (by omega), first]
  rw [placeBit, toNat_or_place (by omega) (by omega), second]
  omega

/-- The fields of the COMMAND word (R46, R59). -/
theorem commandWord_fields (code : BitVec 8) (window : WindowState) (overrun : Bool) :
    let w := place 0 code.toNat ||| place 8 window.code ||| placeBit 16 overrun
    field w 0 8 = code.toNat ∧ bit w 16 = overrun ∧ field w 11 5 = 0 ∧ field w 17 15 = 0 ∧
      (window = .idle → field w 8 3 = 0) ∧ (window = .pending → field w 8 3 = 1) ∧
      (window = .executing → field w 8 3 = 2) ∧ (window = .done → field w 8 3 = 3) ∧
      (window = .detaching → field w 8 3 = 4) := by
  have value := commandWord_toNat code window overrun
  have codeFits : code.toNat < 256 := code.isLt
  have windowFits : window.code < 5 := by cases window <;> decide
  have flagFits : overrun.toNat < 2 := Bool.toNat_lt overrun
  have state : (code.toNat + window.code * 2 ^ 8 + overrun.toNat * 2 ^ 16) / 2 ^ 8 % 2 ^ 3 = window.code := by omega
  simp only [field_eq, bit_eq, value, state]
  refine ⟨by omega, ?_, by omega, by omega, ?_⟩
  · have flag : (code.toNat + window.code * 2 ^ 8 + overrun.toNat * 2 ^ 16) / 2 ^ 16 % 2 = overrun.toNat := by omega
    rw [flag]
    cases overrun <;> rfl
  · refine ⟨?_, ?_, ?_, ?_, ?_⟩
    all_goals
      rintro rfl
      rfl

section
variable (s : State) (n : AgentId)

theorem State.windowRead_param {k : Fin 16} {i : ParamId} (h : k.val = i.val) :
    s.windowRead n k = (s.port n).params[i] := by
  have bound : k.val < 8 := by omega
  refine (dif_pos bound).trans ?_
  simp only [h, Fin.getElem_fin]

theorem State.windowRead_command :
    s.windowRead n 8 = place 0 (s.port n).code.toNat ||| place 8 (s.port n).window.code |||
      placeBit 16 (s.port n).overrun := rfl

theorem State.windowRead_ident : (s.windowRead n 15).toNat = 0x0640 * 2 ^ 16 + n.val := by
  have e : s.windowRead n 15 = place 0 n.val ||| place 16 0x0640 := rfl
  have first : (place 0 n.val).toNat = n.val * 2 ^ 0 := toNat_place (by omega)
  rw [e, toNat_or_place (by omega) (by decide), first]
  omega

theorem toNat_place_nine (x : BitVec 9) : (place 0 x.toNat).toNat = x.toNat := by
  have fits : x.toNat < 512 := x.isLt
  rw [toNat_place (by omega)]
  omega

end

section
variable {s : State} {n : AgentId} {c : WindowCycle} (running : s.resetAsserted = false) (word : c.isWord = true)
include running word

/-- A write to a word with a row of its own is that row (R43). -/
theorem exec_windowWrite_row (write : c.write = true) {e : Instr} (row : rowWrite n c.data c.word.val e) :
    exec (.windowWrite n (.presented c)) s = exec e s := by
  obtain ⟨j, same, e⟩ := exec_rowWrite_taken running row
  rw [e, exec_windowWrite running, State.windowCycle_write _ n word write, Fin.ext same]

/-- A write to a word that ignores it is acknowledged (R48, R49). -/
theorem exec_windowWrite_ignored (write : c.write = true) (ignored : 9 ≤ c.word.val ∧ c.word.val ≤ 12 ∨ c.word.val = 15) :
    exec (.windowWrite n (.presented c)) s = .next (s.setPort n
      { s.port n with heldWindow := none, windowAnswer := some .acknowledge }) := by
  rw [exec_windowWrite running, State.windowCycle_write _ n word write, State.windowStore_ignored _ n _ _ ignored,
    State.answerWindow, State.setPort_setPort, State.setPort_port, if_pos rfl]
  rfl

/-- A read returns the word, and changes nothing but the answer (R43). -/
theorem exec_windowWrite_read (write : c.write = false) :
    exec (.windowWrite n (.presented c)) s = .next (s.setPort n
      { s.port n with
        heldWindow := none
        windowAnswer := some (.word ((s.setPort n (s.port n).noneHeld).windowRead n c.word)) }) := by
  rw [exec_windowWrite running, State.windowCycle_read _ n word write, State.setPort_setPort, State.setPort_port,
    if_pos rfl]
  rfl

end

theorem exec_windowWrite_error {s : State} {n : AgentId} {c : WindowCycle} (running : s.resetAsserted = false)
    (error : c.isWord = false) : exec (.windowWrite n (.presented c)) s = .next (s.setPort n
      { s.port n with
        heldWindow := none, windowAnswer := some (.busError (if c.write = true then none else some 0)) }) := by
  rw [exec_windowWrite running, State.windowCycle_error _ n error, State.setPort_setPort, State.setPort_port, if_pos rfl]
  rfl

/-- Under RESET a cycle that is presented is held off (R43, R185). -/
theorem exec_windowWrite_reset {s : State} {n : AgentId} (asserted : s.resetAsserted = true) (c : WindowCycle) :
    exec (.windowWrite n (.presented c)) s = .next (s.setPort n { s.port n with heldWindow := some c }) :=
  congrArg Host.Outcome.next (s.presentWindow_reset n c _ asserted)

/-- Under RESET a cycle that is held off stays so (R185). -/
theorem exec_windowWrite_heldOff_reset {s : State} {n : AgentId} (asserted : s.resetAsserted = true) :
    exec (.windowWrite n .heldOff) s = .next s := by
  have e : exec (.windowWrite n .heldOff) s = execWindowWrite n .heldOff s := rfl
  cases held : (s.port n).heldWindow with
  | none => simp only [e, execWindowWrite, held]
  | some c =>
    have same : ({ s.port n with heldWindow := some c } : Port) = s.port n := by rw [← held]
    rw [e, execWindowWrite_heldOff s held]
    refine (exec_windowWrite_reset asserted c).trans ?_
    rw [same]
    simp only [State.setPort, State.port, Fin.getElem_fin, Vector.set_getElem_self]

/-- Settles O9. -/
theorem windowCyclesByOffset : Obligations.WindowCyclesByOffset := by
  intro s n c
  refine ⟨fun asserted => ⟨exec_windowWrite_reset asserted c, exec_windowWrite_heldOff_reset asserted, fun v k e row => ?_⟩,
    fun none_ => ?_, fun running held => execWindowWrite_heldOff s held, fun running bad => ?_,
    fun running be aligned selects => ?_⟩
  · obtain ⟨j, rfl, e⟩ := exec_rowWrite (s := s) row
    exact ⟨wordWrite j v, e.trans (congrArg Host.Outcome.next (s.presentWindow_reset n _ _ asserted)), wordWrite_lines j v⟩
  · have e : exec (.windowWrite n .heldOff) s = execWindowWrite n .heldOff s := rfl
    simp only [e, execWindowWrite, none_]
  · refine exec_windowWrite_error running (Bool.eq_false_iff.mpr fun word => ?_)
    obtain ⟨be, aligned, selects⟩ := (isWord_iff c).mp word
    rcases bad with h | h | h
    · exact h be
    · exact h aligned
    · rw [selects] at h
      cases h
  · have word : c.isWord = true := (isWord_iff c).mpr ⟨be, aligned, selects⟩
    refine ⟨fun write => ⟨exec_windowWrite_ignored running word write,
      fun i h => exec_windowWrite_row running word write (.inl ⟨i, rfl, h⟩),
      fun h => exec_windowWrite_row running word write (.inr (.inl ⟨rfl, h⟩)),
      fun h => exec_windowWrite_row running word write (.inr (.inr (.inl ⟨rfl, h⟩))),
      fun h => exec_windowWrite_row running word write (.inr (.inr (.inr ⟨rfl, h⟩)))⟩,
      fun read => ⟨_, exec_windowWrite_read running word read, ?_⟩⟩
    have port : (s.setPort n (s.port n).noneHeld).port n = (s.port n).noneHeld := by
      rw [State.setPort_port, if_pos rfl]
    have profile : (s.setPort n (s.port n).noneHeld).profile n = s.profile n := rfl
    generalize s.setPort n (s.port n).noneHeld = t at port profile
    have at_ : ∀ {k : Fin 16}, c.word.val = k.val → c.word = k := Fin.ext
    refine ⟨fun i h => ?_, fun h => ?_, fun h => ?_, fun h => ?_, fun h => ?_, fun h => ?_, fun h => ?_, fun h => ?_,
      fun h => ?_⟩
    · rw [t.windowRead_param n h, port]
      rfl
    · rw [at_ (k := 8) h, t.windowRead_command, port]
      exact commandWord_fields _ _ _
    · rw [at_ (k := 9) h]; exact (congrArg Port.status port).trans rfl
    · rw [at_ (k := 10) h]; exact (congrArg Port.result0 port).trans rfl
    · rw [at_ (k := 11) h]; exact (congrArg Port.result1 port).trans rfl
    · rw [at_ (k := 12) h]; exact (congrArg Port.result2 port).trans rfl
    · rw [at_ (k := 13) h, ← profile]; exact toNat_place_nine _
    · rw [at_ (k := 14) h, ← profile]; exact toNat_place_nine _
    · rw [at_ (k := 15) h, t.windowRead_ident]

end Sys2Proof.Machine
end

section
/-! SUPPORT. The Access Check Unit: the covering entry, the checks in their order, and what becomes of an access (R22 to
R33). -/

namespace Sys2Proof.Machine

/-! ## The covering entry -/

section
variable {s : State} {n : AgentId} {a : Addr} {i : EntryId} {l : Lease}

theorem State.covering_covers (h : s.covering n a = some (i, l)) : s.Covers n a i l := by
  obtain ⟨j, -, hj⟩ := List.exists_of_findSome?_eq_some h
  split at hj
  next k hk =>
    split at hj
    next contains =>
      cases hj
      exact ⟨hk, contains⟩
    next => cases hj
  next => cases hj

theorem State.covering_eq_none (h : ∀ i l, ¬s.Covers n a i l) : s.covering n a = none := by
  cases found : s.covering n a with
  | none => rfl
  | some x => exact absurd (State.covering_covers found) (h x.1 x.2)

theorem State.covering_ne_none (h : s.Covers n a i l) : s.covering n a ≠ none := fun none_ => by
  have at_i := List.findSome?_eq_none_iff.mp none_ i (mem_allEntries i)
  simp only [h.1, h.2, if_true, reduceCtorEq] at at_i

/-- An agent's ACTIVE entries lie apart, so no more than one covers an address (R68). -/
theorem State.covering_of_covers (law : s.SelfOverlapLaw) (h : s.Covers n a i l) : s.covering n a = some (i, l) := by
  obtain ⟨⟨j, k⟩, found⟩ := Option.ne_none_iff_exists'.mp (State.covering_ne_none h)
  obtain ⟨active, contains⟩ := State.covering_covers found
  obtain ⟨active', contains'⟩ := h
  have same : j = i := Classical.byContradiction fun ne => by
    have apart := law n j i ne k l active active'
    rw [Range.overlaps_of_contains contains contains'] at apart
    cases apart
  subst same
  rw [active] at active'
  rw [found, Option.some.inj active']

end

/-! ## The checks -/

section
variable {s : State} {n : AgentId} {a : AccessInfo}

theorem State.refusal_of_misaligned (h : a.addr.toNat % a.size.bytes ≠ 0) : s.refusal n a = some .misaligned := by
  have aligned : a.aligned = false := beq_eq_false_iff_ne.mpr h
  rw [State.refusal, aligned]
  rfl

theorem State.refusal_of_disabled (h : a.addr.toNat % a.size.bytes = 0) (disabled : (s.profile n).enabled = false) :
    s.refusal n a = some .disabled := by
  have aligned : a.aligned = true := beq_iff_eq.mpr h
  rw [State.refusal, aligned, disabled]
  rfl

theorem State.refusal_of_enabled (h : a.addr.toNat % a.size.bytes = 0) (enabled : (s.profile n).enabled = true) :
    s.refusal n a =
      match s.covering n a.addr with
      | none => some .noLease
      | some (_, l) =>
        if !l.rights.allow a.kind then some .rights
        else if !l.floor.met a.priv then some .privilege
        else if !s.inPhase l then some .outOfPhase
        else none := by
  have aligned : a.aligned = true := beq_iff_eq.mpr h
  rw [State.refusal, aligned, enabled] <;> rfl

theorem State.refusal_of_covered (h : a.addr.toNat % a.size.bytes = 0) (enabled : (s.profile n).enabled = true)
    {i : EntryId} {l : Lease} (covering : s.covering n a.addr = some (i, l)) :
    s.refusal n a =
      if !l.rights.allow a.kind then some .rights
      else if !l.floor.met a.priv then some .privilege
      else if !s.inPhase l then some .outOfPhase
      else none := by
  rw [State.refusal_of_enabled h enabled, covering]

theorem State.inPhase_iff (l : Lease) :
    s.inPhase l = true ↔ ∀ x, l.slot = some x → s.leases.inForce = some x.phase ∧ x.effective = true := by
  unfold State.inPhase
  cases slot : l.slot with
  | none => simp
  | some x => simp

theorem Floor.met_iff (f : Floor) (x : Privilege) : f.met x = true ↔ f = .any ∨ x = .p := by
  cases f <;> cases x <;> decide

end

/-- Settles O11. -/
theorem decodeChecksInOrder : Obligations.DecodeChecksInOrder := by
  refine fun s n a law => ⟨State.refusal_of_misaligned, fun aligned => ⟨State.refusal_of_disabled aligned,
    fun enabled none_ => ?_, fun i l enabled covers => ?_⟩⟩
  · rw [State.refusal_of_enabled aligned enabled, State.covering_eq_none none_]
  · rw [State.refusal_of_covered aligned enabled (State.covering_of_covers law covers)]
    refine ⟨fun rights => if_pos (by rw [rights]; rfl), fun rights => ?_⟩
    rw [if_neg (by rw [rights]; decide)]
    refine ⟨fun floor unprivileged => if_pos (by rw [floor, unprivileged]; rfl), fun met => ?_⟩
    rw [if_neg (by rw [(Floor.met_iff _ _).mpr met]; decide)]
    refine ⟨fun x slot out => if_pos ?_, fun inPhase => if_neg (by rw [(State.inPhase_iff l).mpr inPhase]; decide)⟩
    rw [Bool.not_eq_true', Bool.eq_false_iff]
    intro inPhase
    obtain ⟨inForce, effective⟩ := (State.inPhase_iff l).mp inPhase x slot
    rcases out with out | out
    · exact out inForce
    · rw [out] at effective
      cases effective

/-! ## The lines of a cycle -/

theorem sizeOfLanes_cases (be : BitVec 4) :
    (sizeOfLanes be = none ↔ be = 0 ∨ be = 0x5 ∨ be = 0x7 ∨ be = 0x9 ∨ be = 0xA ∨ be = 0xB ∨ be = 0xD ∨ be = 0xE) ∧
      ∀ z, sizeOfLanes be = some z → (be = 0x1 ∨ be = 0x2 ∨ be = 0x4 ∨ be = 0x8 → z = .one) ∧
        (be = 0x3 ∨ be = 0x6 ∨ be = 0xC → z = .two) ∧ (be = 0xF → z = .four) := by
  have all : ∀ be : BitVec 4, (sizeOfLanes be = none ↔
      be = 0 ∨ be = 0x5 ∨ be = 0x7 ∨ be = 0x9 ∨ be = 0xA ∨ be = 0xB ∨ be = 0xD ∨ be = 0xE) ∧
      (be = 0x1 ∨ be = 0x2 ∨ be = 0x4 ∨ be = 0x8 → sizeOfLanes be = some .one) ∧
      (be = 0x3 ∨ be = 0x6 ∨ be = 0xC → sizeOfLanes be = some .two) ∧ (be = 0xF → sizeOfLanes be = some .four) := by
    decide
  obtain ⟨none_, one, two, four⟩ := all be
  exact ⟨none_, fun z e => ⟨fun h => Option.some.inj (e.symm.trans (one h)),
    fun h => Option.some.inj (e.symm.trans (two h)), fun h => Option.some.inj (e.symm.trans (four h))⟩⟩

theorem accessOf_eq_none (c : MemCycle) : accessOf c = none ↔ sizeOfLanes c.be = none := Option.map_eq_none_iff

theorem accessOf_eq_some {c : MemCycle} {a : Access} (h : accessOf c = some a) :
    sizeOfLanes c.be = some a.info.size ∧ a.info.addr = c.addr ∧ a.data = c.data ∧ a.info.kind = kindOf c ∧
      a.info.priv = privilegeOf c := by
  obtain ⟨z, size, rfl⟩ := Option.map_eq_some_iff.mp h
  exact ⟨size, rfl, rfl, rfl, rfl⟩

theorem busErrorFor_kindOf (c : MemCycle) :
    busErrorFor (kindOf c) = .busError (if c.write = true then none else some 0) := by
  rw [busErrorFor_eq, kindOf]
  cases c.write <;> cases c.fetch <;> rfl

/-! ## ACCESS_DECODE -/

section
variable {s : State} {n : AgentId} {c : MemCycle}

theorem exec_accessDecode_heldOff (busy : (s.port n).marker ≠ none ∨ s.resetAsserted = true) :
    exec (.accessDecode n (.presented c)) s = .next (s.setPort n { s.port n with held := some c }) := by
  have refuses : ¬s.takesAccess n = true := fun takes => by
    rw [State.takesAccess, Bool.and_eq_true, Bool.not_eq_true', Option.isNone_iff_eq_none] at takes
    obtain ⟨running, clear⟩ := takes
    rcases busy with marker | asserted
    · exact marker clear
    · rw [asserted] at running
      cases running
  have e : exec (.accessDecode n (.presented c)) s = _ := if_neg refuses
  exact e

variable (clear : (s.port n).marker = none) (running : s.resetAsserted = false)
include clear running

theorem State.takesAccess_of_clear : s.takesAccess n = true := by
  rw [State.takesAccess, running, clear]
  rfl

theorem exec_accessDecode_taken :
    exec (.accessDecode n (.presented c)) s = .next ((s.setHeld n none).decodeAccess n c) :=
  if_pos (State.takesAccess_of_clear clear running)

theorem exec_accessDecode_again (held : (s.port n).held = some c) :
    exec (.accessDecode n .heldOff) s = exec (.accessDecode n (.presented c)) s := by
  have takes := State.takesAccess_of_clear clear running
  have e : exec (.accessDecode n .heldOff) s = execAccessDecode n .heldOff s := rfl
  rw [exec_accessDecode_taken clear running, e]
  simp only [execAccessDecode, held, takes, if_true]

end

section
variable {s : State} {n : AgentId} {c : MemCycle}

theorem State.decodeAccess_of_noSize (h : accessOf c = none) :
    s.decodeAccess n c = s.answerMem n (busErrorFor (kindOf c)) := by
  simp only [State.decodeAccess, h]

variable {a : Access} (h : accessOf c = some a)
include h

theorem State.decodeAccess_of_detaching (detaching : (s.port n).window = .detaching) :
    s.decodeAccess n c = s.answerMem n (busErrorFor a.info.kind) := by
  simp only [State.decodeAccess, h, detaching, if_true]

theorem State.decodeAccess_of_attached (attached : (s.port n).window ≠ .detaching) :
    s.decodeAccess n c =
      match s.refusal n a.info with
      | some r => (s.answerMem n (busErrorFor a.info.kind)).handReport n { info := a.info, reason := r }
      | none => s.forward n a := by
  simp only [State.decodeAccess, h, if_neg attached] <;> rfl

end

theorem State.setHeld_port (s : State) (n : AgentId) (h : Option MemCycle) :
    (s.setHeld n h).port n = { s.port n with held := h } := by rw [State.setHeld, State.setPort_port, if_pos rfl]

/-- Settles O12. -/
theorem refusedOrHeldOffAccess : Obligations.RefusedOrHeldOffAccess := by
  intro s n c
  obtain ⟨noSize, sizes⟩ := sizeOfLanes_cases c.be
  refine ⟨(accessOf_eq_none c).trans noSize, fun a access => ?_, exec_accessDecode_heldOff, fun clear running =>
    ⟨exec_accessDecode_again clear running, fun bad => ?_, fun a r access attached refused => ?_⟩⟩
  · obtain ⟨size, addr, data, kind, priv⟩ := accessOf_eq_some access
    obtain ⟨one, two, four⟩ := sizes _ size
    exact ⟨one, two, four, addr, data, kind, priv⟩
  · have answer : (s.setHeld n none).decodeAccess n c = (s.setHeld n none).answerMem n (busErrorFor (kindOf c)) := by
      cases access : accessOf c with
      | none => exact State.decodeAccess_of_noSize access
      | some a =>
        have detaching := bad.resolve_left (by rw [access]; exact Option.some_ne_none a)
        obtain ⟨-, -, -, kind, -⟩ := accessOf_eq_some access
        rw [← kind]
        exact State.decodeAccess_of_detaching access (by rwa [s.setHeld_port])
    rw [exec_accessDecode_taken clear running, answer, State.answerMem, s.setHeld_port, State.setHeld, State.setPort_setPort,
      busErrorFor_kindOf]
  · obtain ⟨-, -, -, kind, -⟩ := accessOf_eq_some access
    have refused' : (s.setHeld n none).refusal n a.info = some r := refused
    have report := State.decodeAccess_of_attached (s := s.setHeld n none) (n := n) access (by rwa [s.setHeld_port])
    rw [refused'] at report
    rw [exec_accessDecode_taken clear running, report, kind, busErrorFor_kindOf]
    simp only [State.handReport, State.answerMem, State.setHeld, State.setPort_setPort, State.setPort_port, if_true]

end Sys2Proof.Machine
end

section
/-! SUPPORT. The access that passes the checks, and that no other reaches the Memory Port (R31, R32, R181). -/

namespace Sys2Proof.Machine

/-! ## A permitted access -/

theorem State.reloadCovering_of_covers {s : State} {n : AgentId} {a : Addr} {i : EntryId} {g : BitVec 8} {l : Lease}
    {o : Option AgentId} (law : s.SelfOverlapLaw) (entry : s.entry i = { gen := g, body := .active n l o })
    (contains : l.range.contains a = true) : s.reloadCovering n a =
      s.setEntry i { gen := g, body := .active n { l with life := l.life.reloadByAccess } o } := by
  have covers : s.Covers n a i l := ⟨by rw [entry]; exact EntryBody.activeOf_self n l o, contains⟩
  simp only [State.reloadCovering, State.covering_of_covers law covers, entry, State.setActive]

theorem Life.reloadByAccess_cases (l : Life) :
    (∀ k, l = .timed .activity k → l.reloadByAccess = .timed .activity { k with remaining := k.term, warned := false }) ∧
      ((∀ k, l ≠ .timed .activity k) → l.reloadByAccess = l) := by
  refine ⟨fun k e => by rw [e]; rfl, fun other => ?_⟩
  cases l with
  | pinned => rfl
  | timed m k =>
    cases m with
    | fixed => rfl
    | activity => exact absurd rfl (other k)

/-- Settles O13. -/
theorem permittedAccessIsForwarded : Obligations.PermittedAccessIsForwarded := by
  intro s n c a i g l o law clear running access attached passes entry contains
  obtain ⟨activity, others⟩ := l.life.reloadByAccess_cases
  refine ⟨l.life.reloadByAccess, activity, others, ?_⟩
  have passes' : (s.setHeld n none).refusal n a.info = none := passes
  have forward := State.decodeAccess_of_attached (s := s.setHeld n none) (n := n) access (by rwa [s.setHeld_port])
  rw [passes'] at forward
  have law' : (s.setHeld n none).SelfOverlapLaw := law
  have entry' : (s.setHeld n none).entry i = { gen := g, body := .active n l o } := entry
  rw [exec_accessDecode_taken clear running, forward]
  simp only [State.forward, State.reloadCovering_of_covers law' entry' contains, State.setEntry_port, s.setHeld_port]
  have ports : ∀ (e : Entry) (p q : Port), ((s.setPort n p).setEntry i e).setPort n q = (s.setEntry i e).setPort n q :=
    fun e p q => by simp only [State.setPort, State.setEntry, Vector.set_set]
  rw [State.setHeld, ports]
  rfl

/-! ## The accesses at the Memory Port -/

/-- Where access a of agent n stands at the port, it was requested there, or granted, as R and G say. -/
def MemoryPort.Holds (n : AgentId) (a : Access) (R G : Prop) (m : MemoryPort) : Prop :=
  (m.requests[n] = some a → R) ∧ (m.grant = some (.agent n a) → G ∨ R)

section
variable {n : AgentId} {a : Access} {R G : Prop} {m m' : MemoryPort}

theorem MemoryPort.Holds.of_grantAgent (h : m.Holds n a R G) {k : AgentId} {b : Access}
    (request : m.requests[k] = some b) (w : Bool) : (m.grantAgent k b w).Holds n a R G := by
  refine ⟨fun stays => ?_, fun granted => ?_⟩
  · have requests : (m.grantAgent k b w).requests[n] = if k = n then none else m.requests[n] := by
      simp only [MemoryPort.grantAgent, Fin.getElem_fin, Vector.getElem_set, Fin.val_inj]
    rw [requests] at stays
    split at stays
    · cases stays
    · exact h.1 stays
  · have same : some (Grant.agent k b) = some (.agent n a) := granted
    cases same
    exact .inr (h.1 request)

theorem MemoryPort.Holds.of_grantChunk (h : m.Holds n a R G) (c : Chunk) : (m.grantChunk c).Holds n a R G :=
  ⟨h.1, fun granted => by cases granted⟩

theorem MemoryPort.Holds.decideAll (h : m.Holds n a R G) : m.decideAll.Holds n a R G := by
  unfold MemoryPort.decideAll
  split
  next => exact h.of_grantChunk _
  next chosen =>
    split
    · exact h.of_grantChunk _
    · exact h.of_grantAgent (MemoryPort.nextAgent_request chosen) true
  next chosen => exact h.of_grantAgent (MemoryPort.nextAgent_request chosen) false
  next => exact h

theorem MemoryPort.Holds.decide (h : m.Holds n a R G) : m.decide.Holds n a R G := by
  unfold MemoryPort.decide
  split
  next => exact h
  next =>
    split
    next request => exact h.of_grantAgent request false
    next => exact h.decideAll
  next =>
    split
    next => exact h.of_grantChunk _
    next => exact h.decideAll
  next => exact h.decideAll
  next => exact h.decideAll

theorem MemoryPort.Holds.of_move (h : m.Holds n a R G) (move : m.Move m') : m'.Holds n a R G := by
  cases move with
  | chunk => exact h
  | decided => exact h.decide
  | next grant more => exact ⟨h.1, fun granted => by cases granted⟩
  | clocked grant below => exact h

theorem MemoryPort.Holds.endGrant (h : m.Holds n a R G) : m.endGrant.Holds n a R G := ⟨h.1, fun granted => by cases granted⟩

end

/-- The same of the state's Memory Port. -/
def State.PortHolds (n : AgentId) (a : Access) (R G : Prop) (s : State) : Prop := s.memPort.Holds n a R G

section
variable {n : AgentId} {a : Access} {R G : Prop} {s t : State}

theorem State.PortHolds.of_portMoves (h : s.PortHolds n a R G) (moves : s.PortMoves t) : t.PortHolds n a R G :=
  moves.keeps (P := MemoryPort.Holds n a R G) (fun _ _ move holds => holds.of_move move) h

theorem State.PortHolds.of_touches {L : List Aspect} (h : s.PortHolds n a R G) (touches : s.Touches L t)
    (apart : .memPort ∉ L) : t.PortHolds n a R G := h.of_portMoves (.of_touches touches apart)

theorem State.portHolds_looksAt : LooksAt (State.PortHolds n a R G) [.memPort] := fun s t same h => by
  have memPort : t.memPort = s.memPort := same .memPort (by decide)
  rwa [State.PortHolds, memPort]

theorem State.PortHolds.endGrant (h : s.PortHolds n a R G) : (s.setMemPort s.memPort.endGrant).PortHolds n a R G :=
  MemoryPort.Holds.endGrant h

theorem State.PortHolds.completeAccess (h : s.PortHolds n a R G) (k : AgentId) (b : BusAnswer) (r : List FaultReport) :
    (s.completeAccess k b r).PortHolds n a R G := by
  obtain ⟨p, -, e⟩ := s.completeAccess_eq k b r
  have ended : ((s.setPort k p).setMemPort s.memPort.endGrant).PortHolds n a R G := MemoryPort.Holds.endGrant h
  rw [e]
  exact ended.of_portMoves (foldl_portMoves (fun u i => u.drainEntry_portMoves k i) allEntries _)

theorem State.PortHolds.wordFailed (h : s.PortHolds n a R G) : s.wordFailed.PortHolds n a R G :=
  State.wordFailed_keeps (P := State.PortHolds n a R G) (fun _ _ touches h => h.of_touches touches (by decide))
    (fun _ n _ b r _ h => h.completeAccess n b r)
    (fun _ _ _ _ h => h.endGrant.of_portMoves (State.chunkFailed_portMoves _)) h

theorem State.PortHolds.wordDone (h : s.PortHolds n a R G) : s.wordDone.PortHolds n a R G :=
  State.wordDone_keeps (P := State.PortHolds n a R G) (fun _ _ touches h => h.of_touches touches (by decide))
    (fun _ n _ b r _ h => h.completeAccess n b r)
    (fun _ _ _ grant more h => h.of_portMoves (.single (.next grant more)))
    (fun _ _ _ _ h => h.endGrant.of_portMoves (State.chunkDone_portMoves _)) h

theorem State.PortHolds.clock (h : s.PortHolds n a R G) : s.clock.PortHolds n a R G :=
  State.clock_keeps (P := State.PortHolds n a R G) (fun _ _ touches h => h.of_touches touches (by decide))
    (fun _ _ _ grant below h => h.of_portMoves (.single (.clocked grant below))) (fun _ h => h.wordFailed) h

theorem State.reset_requests (n : AgentId) : State.reset.memPort.requests[n] = none := by
  revert n
  decide

/-- Beside ACCESS_DECODE, an instruction brings no access to the port, and grants none that was not requested. -/
theorem State.PortHolds.exec (h : s.PortHolds n a R G) {i : Instr} (other : ∀ k c, i ≠ .accessDecode k c)
    (e : exec i s = .next t) : t.PortHolds n a R G := by
  have completion := State.portHolds_looksAt (n := n) (a := a) (R := R) (G := G).completion (by decide)
  refine exec_keeps_law State.portHolds_looksAt (fun s n c r _ => completion s n c r)
    (fun c n ps s _ _ _ h => completion _ n _ _ (h.of_portMoves (c.run_portMoves s n ps))) (fun touched => ?_) h e
  cases i with
  | accessDecode k c => exact absurd rfl (other k c)
  | memoryGrant => cases e; exact h.of_portMoves (.single .decided)
  | mack => cases e; exact h.wordDone
  | merr m => cases e; exact h.wordFailed
  | acknowledgeTimeout => cases e; exact h.wordFailed
  | teardown =>
    rcases execTeardown_cases e with ⟨n, -, e⟩ | e
    · rw [e]
      exact (h.of_portMoves (s.teardown_portMoves n)).of_touches (State.setJob_touches _ none) (by decide)
    · rwa [e]
  | tick c =>
    cases c with
    | leaseTable => cases e; exact h.of_portMoves s.leaseTick_portMoves
    | _ => exact (Bool.false_ne_true touched).elim
  | expiry =>
    rcases execExpiry_cases e with e | e
    · rw [e]; exact h.of_portMoves s.leaseTick_portMoves
    · rwa [e]
  | resetAssert =>
    cases e
    have none_ : State.reset.PortHolds n a R G := by
      refine ⟨fun request => ?_, fun granted => by cases granted⟩
      rw [State.reset_requests] at request
      cases request
    exact State.portHolds_looksAt.of_reset (by decide) none_ _
  | _ => exact (Bool.false_ne_true touched).elim

end

/-! ## What the checks grant -/

/-- The decode of an access leaves the Memory Port, or passes an access on that the checks let through. -/
theorem State.decodeAccess_memPort (s : State) (n : AgentId) (c : MemCycle) :
    (s.decodeAccess n c).memPort = s.memPort ∨
      ∃ a, s.refusal n a.info = none ∧ (s.decodeAccess n c).memPort = s.memPort.requestAgent n a := by
  unfold State.decodeAccess
  split
  next => exact .inl rfl
  next a _ =>
    split
    next => exact .inl rfl
    next =>
      split
      next => exact .inl rfl
      next passes =>
        refine .inr ⟨a, passes, ?_⟩
        have same : (s.reloadCovering n a.info.addr).memPort = s.memPort :=
          s.reloadCovering_touches n a.info.addr .memPort (by decide)
        rw [State.forward, State.setMemPort_memPort, same]

theorem execAccessDecode_memPort {k : AgentId} {c : MemSelect} {s t : State} (h : execAccessDecode k c s = .next t) :
    t.memPort = s.memPort ∨ ∃ b, s.refusal k b.info = none ∧ t.memPort = s.memPort.requestAgent k b := by
  have taken : ∀ m, ((s.setHeld k none).decodeAccess k m).memPort = s.memPort ∨
      ∃ b, s.refusal k b.info = none ∧ ((s.setHeld k none).decodeAccess k m).memPort = s.memPort.requestAgent k b :=
    fun m => (s.setHeld k none).decodeAccess_memPort k m
  unfold execAccessDecode at h
  split at h
  · split at h <;> cases h
    · exact taken _
    · exact .inl rfl
  · split at h <;> cases h
    · exact taken _
    · exact .inl rfl
  · cases h; exact .inl rfl

/-- What a step brings to the port has passed the checks, and what it grants there was requested. -/
theorem step_portHolds {s t : State} (h : step s = .next t) (n : AgentId) (a : Access) :
    (t.memPort.requests[n] = some a → s.memPort.requests[n] = some a ∨ s.refusal n a.info = none) ∧
      (t.memPort.grant = some (.agent n a) → s.memPort.grant = some (.agent n a) ∨ s.memPort.requests[n] = some a) := by
  have begin_ : s.PortHolds n a (s.memPort.requests[n] = some a) (s.memPort.grant = some (.agent n a)) := ⟨id, .inl⟩
  have kept : t.PortHolds n a (s.memPort.requests[n] = some a) (s.memPort.grant = some (.agent n a)) →
      (t.memPort.requests[n] = some a → s.memPort.requests[n] = some a ∨ s.refusal n a.info = none) ∧
        (t.memPort.grant = some (.agent n a) → s.memPort.grant = some (.agent n a) ∨ s.memPort.requests[n] = some a) :=
    fun holds => ⟨fun request => .inl (holds.1 request), holds.2⟩
  rcases step_cases h with ⟨i, rest, -, e⟩ | ⟨-, rfl⟩
  · have queue := State.portHolds_looksAt.queue s rest begin_
    by_cases decode : ∃ k c, i = .accessDecode k c
    · obtain ⟨k, c, rfl⟩ := decode
      rcases execAccessDecode_memPort e with same | ⟨b, passes, forwarded⟩
      · exact kept (by rw [State.PortHolds, same]; exact begin_)
      · rw [forwarded]
        refine ⟨fun request => ?_, fun granted => .inl granted⟩
        have requests : (s.memPort.requestAgent k b).requests[n] = if k = n then some b else s.memPort.requests[n] := by
          simp only [MemoryPort.requestAgent, Fin.getElem_fin, Vector.getElem_set, Fin.val_inj]
        replace request : (s.memPort.requestAgent k b).requests[n] = some a := request
        rw [requests] at request
        split at request
        next same =>
          cases request
          subst same
          exact .inr passes
        next => exact .inl request
    · exact kept (State.PortHolds.exec queue (fun k c eq => decode ⟨k, c, eq⟩) e)
  · exact kept begin_.clock

/-- An access that passes every check stands under a covering entry that permits it (R25). -/
theorem State.permitted_of_passes {s : State} {n : AgentId} {a : AccessInfo} (passes : s.refusal n a = none) :
    a.addr.toNat % a.size.bytes = 0 ∧ ∃ i l, s.Covers n a.addr i l ∧ l.rights.allow a.kind = true ∧
      l.floor.met a.priv = true ∧ s.inPhase l = true := by
  have aligned : a.addr.toNat % a.size.bytes = 0 := Classical.byContradiction fun odd => by
    rw [State.refusal_of_misaligned odd] at passes
    cases passes
  have enabled : (s.profile n).enabled = true := Bool.not_eq_false _ |>.mp fun disabled => by
    rw [State.refusal_of_disabled aligned disabled] at passes
    cases passes
  refine ⟨aligned, ?_⟩
  cases covering : s.covering n a.addr with
  | none =>
    rw [State.refusal_of_enabled aligned enabled, covering] at passes
    cases passes
  | some x =>
    obtain ⟨i, l⟩ := x
    rw [State.refusal_of_covered aligned enabled covering] at passes
    refine ⟨i, l, State.covering_covers covering, ?_⟩
    split at passes
    next => cases passes
    next rights =>
      split at passes
      next => cases passes
      next floor =>
        split at passes
        next => cases passes
        next phase => simpa using And.intro rights (And.intro floor phase)

/-- A sound range that contains an aligned access contains its bytes: both bounds are multiples of four (R10, R22). -/
theorem Range.contains_bytes {r : Range} (valid : r.valid = true) {a : AccessInfo}
    (aligned : a.addr.toNat % a.size.bytes = 0) (contains : r.contains a.addr = true) {k : Nat} (hk : k < a.size.bytes) :
    r.base.toNat ≤ a.addr.toNat + k ∧ a.addr.toNat + k < r.base.toNat + 2 ^ r.order := by
  obtain ⟨low, -, base⟩ := (r.valid_iff).mp valid
  obtain ⟨first, last⟩ := (r.contains_iff a.addr).mp contains
  have four : 4 ∣ 2 ^ r.order := Nat.pow_dvd_pow 2 (m := 2) (by omega)
  have four' : 4 ∣ r.base.toNat := Nat.dvd_trans four (Nat.dvd_of_mod_eq_zero base)
  have positive : 0 < 2 ^ r.order := Nat.two_pow_pos _
  rw [Range.first] at first
  rw [Range.last] at last
  cases size : a.size <;> rw [size] at aligned hk <;> simp only [Size.bytes] at aligned hk <;> omega

/-- Settles O14. -/
theorem forwardedOnlyUnderACoveringLease : Obligations.ForwardedOnlyUnderACoveringLease := by
  intro s t n a law h
  obtain ⟨requests, grants⟩ := step_portHolds h n a
  refine ⟨fun request fresh => ?_, fun granted fresh => (grants granted).resolve_left fresh⟩
  obtain ⟨aligned, i, l, ⟨active, contains⟩, rights, floor, phase⟩ :=
    State.permitted_of_passes ((requests request).resolve_left fresh)
  obtain ⟨x, body⟩ := EntryBody.active_of_activeOf active
  obtain ⟨leases, -⟩ := law
  obtain ⟨valid, -⟩ := leases i l (by rw [body]; rfl)
  refine ⟨i, l, x, body, fun k hk => Range.contains_bytes valid aligned contains hk, ?_, ?_, ?_,
    (Floor.met_iff _ _).mp floor, (State.inPhase_iff l).mp phase⟩
  all_goals
    intro kind
    rwa [kind] at rights

end Sys2Proof.Machine
end

section
/-! SUPPORT. The end of an agent's word at the Memory Port, and the drain of the entries that waited for it (R34 to R36,
R108, R109, R182, R183). -/

namespace Sys2Proof.Machine

/-! ## The drain of the entries -/

section
variable {s : State} {n : AgentId} {i : EntryId} {g : BitVec 8} {l : Lease}

theorem State.drainEntry_of_keep (body : s.entry i = { gen := g, body := .retiring (some n) l true })
    (keep : l.disposition = .keep) :
    State.drainEntry n s i = (s.setEntry i { gen := g, body := .retiring (some n) l false }).freeEntry i := by
  rw [s.drainEntry_of_draining body, State.drained_keep _ i keep]

theorem State.drainEntry_of_scrub (body : s.entry i = { gen := g, body := .retiring (some n) l true })
    (scrub : l.disposition = .scrub) :
    State.drainEntry n s i = (s.setEntry i { gen := g, body := .retiring (some n) l false }).joinQueue i := by
  rw [s.drainEntry_of_draining body, State.drained_scrub _ i scrub]

/-- What an entry's drain can be: nothing, its freeing, or its join of the scrub queue (R36, R108). -/
theorem State.drainEntry_cases (s : State) (n : AgentId) (i : EntryId) :
    State.drainEntry n s i = s ∧ (∀ l, (s.entry i).body ≠ .retiring (some n) l true) ∨
      ∃ g l, s.entry i = { gen := g, body := .retiring (some n) l true } ∧
        (l.disposition = .keep ∧
            State.drainEntry n s i = (s.setEntry i { gen := g, body := .retiring (some n) l false }).freeEntry i ∨
          l.disposition = .scrub ∧
            State.drainEntry n s i = (s.setEntry i { gen := g, body := .retiring (some n) l false }).joinQueue i) := by
  by_cases drains : ∃ l, (s.entry i).body = .retiring (some n) l true
  · obtain ⟨l, body⟩ := drains
    have entry : s.entry i = { gen := (s.entry i).gen, body := .retiring (some n) l true } := by rw [← body]
    refine .inr ⟨_, l, entry, ?_⟩
    cases disposition : l.disposition with
    | keep => exact .inl ⟨rfl, State.drainEntry_of_keep entry disposition⟩
    | scrub => exact .inr ⟨rfl, State.drainEntry_of_scrub entry disposition⟩
  · have other : ∀ l, (s.entry i).body ≠ .retiring (some n) l true := fun l body => drains ⟨l, body⟩
    exact .inl ⟨s.drainEntry_of_other other, other⟩

/-- What neither an entry, a join of the scrub queue nor the re-examination flag makes false, a drain does not. -/
theorem State.drainEntry_invariant {P : State → Prop} (entry : ∀ s i e, P s → P (State.setEntry s i e))
    (join : ∀ s i, P s → P (State.joinQueue s i)) (reexamine : ∀ s b, P s → P (State.setReexamine s b)) (p : P s) :
    P (State.drainEntry n s i) := by
  rcases s.drainEntry_cases n i with ⟨e, -⟩ | ⟨g, l, -, ⟨-, e⟩ | ⟨-, e⟩⟩
  · rwa [e]
  · rw [e, State.freeEntry]
    exact reexamine _ _ (entry _ _ _ (entry _ _ _ p))
  · rw [e]
    exact join _ _ (entry _ _ _ p)

end

/-- Every entry drained for agent n. -/
def State.drainAll (s : State) (n : AgentId) : State := s.forEntries (State.drainEntry n)

section
variable (s : State) (n : AgentId)

theorem State.drainAll_invariant {P : State → Prop} (entry : ∀ s i e, P s → P (State.setEntry s i e))
    (join : ∀ s i, P s → P (State.joinQueue s i)) (reexamine : ∀ s b, P s → P (State.setReexamine s b)) (p : P s) :
    P (s.drainAll n) := by
  rw [State.drainAll]
  exact State.forEntries_invariant (f := State.drainEntry n) (P := P)
    (fun _ _ p => State.drainEntry_invariant entry join reexamine p) s p

/-- What neither an entry, the scrub queue, a chunk request nor the re-examination flag decides, the drain leaves. -/
theorem State.drainAll_keeps {α : Type} (P : State → α) (entry : ∀ s i e, P (State.setEntry s i e) = P s)
    (scrub : ∀ s x, P (State.setScrub s x) = P s) (memPort : ∀ s m, P (State.setMemPort s m) = P s)
    (reexamine : ∀ s b, P (State.setReexamine s b) = P s) : P (s.drainAll n) = P s :=
  s.drainAll_invariant n (P := fun t => P t = P s) (fun t i e h => (entry t i e).trans h)
    (fun t i h => (State.joinQueue_keeps P scrub memPort t i).trans h) (fun t b h => (reexamine t b).trans h) rfl

theorem State.drainAll_entry (i : EntryId) : ∃ t : State, t.entry i = s.entry i ∧
    (s.drainAll n).entry i = (State.drainEntry n t i).entry i := by
  rw [State.drainAll]
  obtain ⟨t, -, same, drained⟩ := State.forEntries_entry (f := State.drainEntry n) (fun _ => ()) (fun _ _ => rfl)
    (fun t i j ne => t.drainEntry_entry_ne n ne) s i
  exact ⟨t, same, drained⟩

theorem State.drainAll_entry_of_keep {i : EntryId} {g : BitVec 8} {l : Lease}
    (body : s.entry i = { gen := g, body := .retiring (some n) l true }) (keep : l.disposition = .keep) :
    (s.drainAll n).entry i = { gen := g, body := .free } := by
  obtain ⟨t, same, drained⟩ := s.drainAll_entry n i
  rw [drained, State.drainEntry_of_keep (same.trans body) keep, State.freeEntry_entry, if_pos rfl, State.setEntry_entry,
    if_pos rfl]

theorem State.drainAll_entry_of_scrub {i : EntryId} {g : BitVec 8} {l : Lease}
    (body : s.entry i = { gen := g, body := .retiring (some n) l true }) (scrub : l.disposition = .scrub) :
    (s.drainAll n).entry i = { gen := g, body := .retiring (some n) l false } := by
  obtain ⟨t, same, drained⟩ := s.drainAll_entry n i
  rw [drained, State.drainEntry_of_scrub (same.trans body) scrub, State.joinQueue_entry, State.setEntry_entry, if_pos rfl]

theorem State.drainAll_entry_of_other {i : EntryId} (other : ∀ l, (s.entry i).body ≠ .retiring (some n) l true) :
    (s.drainAll n).entry i = s.entry i := by
  obtain ⟨t, same, drained⟩ := s.drainAll_entry n i
  rw [drained, t.drainEntry_of_other (by rwa [same]), same]

/-- The entry joins the scrub queue when it is drained (R108). -/
def Entry.joinsAtDrain (n : AgentId) (e : Entry) : Bool :=
  match e.body with
  | .retiring (some o) l true => o == n && l.disposition == .scrub
  | .retiring .. | .free | .active .. | .faulted _ => false

theorem Entry.joinsAtDrain_iff (e : Entry) :
    e.joinsAtDrain n = true ↔ ∃ l, e.body = .retiring (some n) l true ∧ l.disposition = .scrub := by
  unfold Entry.joinsAtDrain
  cases e.body with
  | retiring o l d =>
    cases o with
    | none => simp
    | some o => cases d <;> simp [and_assoc]
  | _ => simp

theorem State.drainEntry_queue (i : EntryId) : (State.drainEntry n s i).scrub.queue =
    s.scrub.queue ++ if (s.entry i).joinsAtDrain n then [i] else [] := by
  rcases s.drainEntry_cases n i with ⟨e, other⟩ | ⟨g, l, body, ⟨keep, e⟩ | ⟨scrub, e⟩⟩
  · have stays : ¬(s.entry i).joinsAtDrain n = true := fun joins => by
      obtain ⟨l, body, -⟩ := (Entry.joinsAtDrain_iff n _).mp joins
      exact other l body
    rw [e, if_neg stays, List.append_nil]
  · have stays : ¬(s.entry i).joinsAtDrain n = true := fun joins => by
      obtain ⟨k, same, scrub⟩ := (Entry.joinsAtDrain_iff n _).mp joins
      rw [body] at same
      cases same
      rw [keep] at scrub
      cases scrub
    rw [e, if_neg stays, List.append_nil]
    rfl
  · have joins : (s.entry i).joinsAtDrain n = true := (Entry.joinsAtDrain_iff n _).mpr ⟨l, by rw [body], scrub⟩
    rw [e, if_pos joins, State.joinQueue_queue]
    rfl

theorem State.drainAll_queue :
    (s.drainAll n).scrub.queue = s.scrub.queue ++ allEntries.filter fun i => (s.entry i).joinsAtDrain n := by
  rw [State.drainAll]
  exact State.forEntries_queue (f := State.drainEntry n) (fun _ => ()) (fun _ _ => rfl)
    (fun t i j ne => t.drainEntry_entry_ne n ne) (fun _ e => e.joinsAtDrain n) (fun t i => t.drainEntry_queue n i) s

/-- A drain that frees an entry sets the re-examination flag (R6). -/
theorem State.drainAll_reexamine {i : EntryId} {g : BitVec 8} {l : Lease}
    (body : s.entry i = { gen := g, body := .retiring (some n) l true }) (keep : l.disposition = .keep) :
    (s.drainAll n).manager.reexamine = true := by
  rw [State.drainAll, State.forEntries]
  refine foldl_establishes (get := State.entry) (f := State.drainEntry n) (I := fun _ => True)
    (Q := fun t => t.manager.reexamine = true) (fun t i j ne => t.drainEntry_entry_ne n ne) (fun _ _ _ => trivial)
    (fun t j set => ?_) allEntries_nodup (mem_allEntries i) trivial fun t same _ => ?_
  · rcases t.drainEntry_cases n j with ⟨e, -⟩ | ⟨g, l, -, ⟨-, e⟩ | ⟨-, e⟩⟩
    · rwa [e]
    · rw [e]; rfl
    · rw [e, State.joinQueue_manager]; exact set
  · rw [State.drainEntry_of_keep (same.trans body) keep]
    rfl

end

/-! ## The Memory Port behind the end of a grant -/

/-- The port stands between the end of a grant and the decision that it brings, with the requests r. -/
def MemoryPort.Ended (r : Vector (Option Access) 6) (m : MemoryPort) : Prop :=
  m.grant = none ∧ m.due = .endOfGrant ∧ m.requests = r

theorem MemoryPort.Ended.requestChunk {r : Vector (Option Access) 6} {m : MemoryPort} (h : m.Ended r) (c : Chunk) :
    (m.requestChunk c).Ended r := by
  obtain ⟨grant, due, requests⟩ := h
  have busy : m.quiet = false := by
    unfold MemoryPort.quiet
    rw [due, grant]
    rfl
  refine ⟨grant, ?_, requests⟩
  rw [MemoryPort.requestChunk, busy]
  exact due

theorem State.requestChunk_ended {r : Vector (Option Access) 6} {s : State} (h : s.memPort.Ended r) :
    s.requestChunk.memPort.Ended r := by
  unfold State.requestChunk
  split
  · exact h
  · split
    · exact h
    · exact h.requestChunk _

theorem State.joinQueue_ended {r : Vector (Option Access) 6} {s : State} (i : EntryId) (h : s.memPort.Ended r) :
    (s.joinQueue i).memPort.Ended r := by
  by_cases idle : s.scrub.mode = .idle
  · rw [s.joinQueue_of_idle i idle]
    exact State.requestChunk_ended (s := s.setScrub _) h
  · rw [s.joinQueue_of_busy i idle]
    exact h

theorem State.drainAll_ended {r : Vector (Option Access) 6} {s : State} (n : AgentId) (h : s.memPort.Ended r) :
    (s.drainAll n).memPort.Ended r :=
  s.drainAll_invariant n (P := fun t => t.memPort.Ended r) (fun _ _ _ h => h) (fun _ i h => State.joinQueue_ended i h)
    (fun _ _ h => h) h

end Sys2Proof.Machine
end

section
/-! SUPPORT. MACK, MERR and the timeout at the end of an agent's word (R34 to R36, R182, R183). -/

namespace Sys2Proof.Machine

/-! ## The completion of an access -/

/-- The port of a completed access: the answer and the reports are withheld under the discard flag (R34 to R36). -/
def Port.completed (p : Port) (m : Marker) (b : BusAnswer) (r : List FaultReport) : Port :=
  { p with
    marker := none
    memAnswer := if m.discard = true then p.memAnswer else some b
    reports := if m.discard = true then p.reports else p.reports ++ r }

section
variable {s : State} {n : AgentId} {m : Marker} {b : BusAnswer} {r : List FaultReport}

theorem State.completeAccess_of_marker (marker : (s.port n).marker = some m) :
    s.completeAccess n b r =
      ((s.setPort n ((s.port n).completed m b r)).setMemPort s.memPort.endGrant).drainAll n := by
  have port : (s.port n).completed m b r = { s.port n with
      marker := none
      memAnswer := if (!m.discard) = true then some b else (s.port n).memAnswer
      reports := if (!m.discard) = true then (s.port n).reports ++ r else (s.port n).reports } := by
    unfold Port.completed
    cases m.discard <;> rfl
  rw [port]
  simp only [State.completeAccess, marker] <;> rfl

theorem State.completeAccess_port_self (marker : (s.port n).marker = some m) :
    (s.completeAccess n b r).port n = (s.port n).completed m b r := by
  rw [State.completeAccess_of_marker marker, State.drainAll_keeps _ n (fun t => t.port n) (fun _ _ _ => rfl)
    (fun _ _ => rfl) (fun _ _ => rfl) (fun _ _ => rfl), State.setMemPort_port, State.setPort_port, if_pos rfl]

/-- The port, the Memory Port, the scrub queue and the entries apart, a completion of an access leaves everything. -/
theorem State.completeAccess_keeps {α : Type} (P : State → α) (port : ∀ s p, P (State.setPort s n p) = P s)
    (memPort : ∀ s m, P (State.setMemPort s m) = P s) (entry : ∀ s i e, P (State.setEntry s i e) = P s)
    (scrub : ∀ s x, P (State.setScrub s x) = P s) (reexamine : ∀ s b, P (State.setReexamine s b) = P s) :
    P (s.completeAccess n b r) = P s := by
  obtain ⟨p, -, e⟩ := s.completeAccess_eq n b r
  have drains : P (((s.setPort n p).setMemPort s.memPort.endGrant).drainAll n) = P s := by
    rw [State.drainAll_keeps _ n P entry scrub memPort reexamine, memPort, port]
  rw [e]
  exact drains

theorem State.completeAccess_memPort : (s.completeAccess n b r).memPort.Ended s.memPort.requests := by
  obtain ⟨p, -, e⟩ := s.completeAccess_eq n b r
  rw [e]
  exact State.drainAll_ended (s := (s.setPort n p).setMemPort s.memPort.endGrant) n ⟨rfl, rfl, rfl⟩

end

/-! ## The end of an agent's word -/

theorem exec_mack_agent {s : State} {n : AgentId} {a : Access} (grant : s.memPort.grant = some (.agent n a))
    (strobe : s.memPort.strobe ≠ none) : exec .mack s = .next (s.accessDone n a) := by
  have e : exec .mack s = .next s.wordDone := rfl
  rw [e, State.wordDone_of_agent (MemoryPort.wordInProgress_of_grant grant strobe)]

theorem exec_merr {s : State} {e : Instr} (h : e = .merr false ∨ e = .merr true ∨ e = .acknowledgeTimeout) :
    exec e s = .next s.wordFailed := by
  rcases h with rfl | rfl | rfl <;> rfl

theorem exec_merr_agent {s : State} {n : AgentId} {a : Access} (grant : s.memPort.grant = some (.agent n a))
    (strobe : s.memPort.strobe ≠ none) {e : Instr} (h : e = .merr false ∨ e = .merr true ∨ e = .acknowledgeTimeout) :
    exec e s = .next (s.accessFailed n a) := by
  rw [exec_merr h, State.wordFailed_of_agent (MemoryPort.wordInProgress_of_grant grant strobe)]

theorem State.accessDone_of_write {s : State} {n : AgentId} {a : Access} (write : a.info.kind = .dataWrite) :
    s.accessDone n a = (s.takeWord a.lines).completeAccess n .acknowledge [] := by
  simp only [State.accessDone, write]

theorem State.accessDone_of_read {s : State} {n : AgentId} {a : Access} (read : a.info.kind ≠ .dataWrite) :
    s.accessDone n a = s.completeAccess n (.bytes (s.readBytes a.info)) [] := by
  unfold State.accessDone
  cases kind : a.info.kind with
  | dataWrite => exact absurd kind read
  | dataRead => rfl
  | fetch => rfl

/-- The array and the count of free values apart, a word that the array takes or leaves changes nothing. -/
theorem State.takeWord_rest (s : State) (l : WordLines) : s.takeWord l = { s with sram := (s.takeWord l).sram } := by
  unfold State.takeWord
  split <;> rfl

/-- MACK, MERR and the timeout complete the access of an agent's word (R34, R35). -/
theorem exec_accessEnd {s : State} {n : AgentId} {a : Access} {e : Instr} (grant : s.memPort.grant = some (.agent n a))
    (strobe : s.memPort.strobe ≠ none) (h : e = .mack ∨ e = .merr false ∨ e = .merr true ∨ e = .acknowledgeTimeout) :
    ∃ x k b r, exec e s = .next (State.completeAccess { s with sram := x, freeIndex := k } n b r) := by
  rcases h with rfl | h
  · rw [exec_mack_agent grant strobe]
    by_cases write : a.info.kind = .dataWrite
    · rw [State.accessDone_of_write write, s.takeWord_rest]
      exact ⟨_, s.freeIndex, _, _, rfl⟩
    · rw [State.accessDone_of_read write]
      exact ⟨s.sram, s.freeIndex, _, _, rfl⟩
  · rw [exec_merr_agent grant strobe h]
    exact ⟨_, _, _, _, rfl⟩

/-- Settles O19. -/
theorem completionDrainsEveryEntry : Obligations.CompletionDrainsEveryEntry := by
  intro s n a e grant strobe h
  obtain ⟨x, k, b, r, ends⟩ := exec_accessEnd grant strobe h
  refine ⟨_, ends, ?_⟩
  obtain ⟨p, -, completes⟩ := State.completeAccess_eq { s with sram := x, freeIndex := k } n b r
  rw [completes]
  generalize drained : (State.setPort { s with sram := x, freeIndex := k } n p).setMemPort s.memPort.endGrant = u
  have entry : ∀ i, u.entry i = s.entry i := fun i => by rw [← drained]; rfl
  have scrub : u.scrub = s.scrub := by rw [← drained]; rfl
  have manager : u.manager = s.manager := by rw [← drained]; rfl
  have leases : u.leases = s.leases := by rw [← drained]; rfl
  have keeps : ∀ {α : Type} (P : State → α), (∀ s i e, P (State.setEntry s i e) = P s) →
      (∀ s x, P (State.setScrub s x) = P s) → (∀ s m, P (State.setMemPort s m) = P s) →
      (∀ s b, P (State.setReexamine s b) = P s) → P (u.drainAll n) = P u := u.drainAll_keeps n
  have goal : State.forEntries (State.drainEntry n) u = u.drainAll n := rfl
  rw [goal]
  refine ⟨fun i g l body => ⟨fun keep => ?_, fun scrub => ?_⟩, fun i other => ?_,
    ⟨allEntries.filter fun i => (s.entry i).joinsAtDrain n, ?_, ?_, fun i => ?_⟩, ?_, ?_, ?_⟩
  · have body' := (entry i).trans body
    exact ⟨u.drainAll_entry_of_keep n body' keep, u.drainAll_reexamine n body' keep⟩
  · exact u.drainAll_entry_of_scrub n ((entry i).trans body) scrub
  · rw [u.drainAll_entry_of_other n (by rwa [entry i]), entry i]
  · rw [u.drainAll_queue, scrub]
    simp only [entry]
  · exact allEntries_rising.filter _
  · rw [List.mem_filter, Entry.joinsAtDrain_iff]
    exact ⟨fun h => h.2, fun h => ⟨mem_allEntries i, h⟩⟩
  · rw [keeps (fun t => t.manager.job) (fun _ _ _ => rfl) (fun _ _ => rfl) (fun _ _ => rfl) (fun _ _ => rfl), manager]
  · rw [keeps (fun t => t.manager.list) (fun _ _ _ => rfl) (fun _ _ => rfl) (fun _ _ => rfl) (fun _ _ => rfl), manager]
  · rw [keeps (fun t => t.leases.inForce) (fun _ _ _ => rfl) (fun _ _ => rfl) (fun _ _ => rfl) (fun _ _ => rfl), leases]

/-! ## The lines of an agent's word -/

theorem MemoryPort.lines_of_agent {m : MemoryPort} {n : AgentId} {a : Access} (grant : m.grant = some (.agent n a)) :
    m.lines = some a.lines := by
  simp only [MemoryPort.lines, grant]

theorem Access.lines_ma (a : Access) : a.lines.ma = a.info.wordLine := by
  unfold Access.lines
  cases a.info.kind <;> rfl

theorem Access.lines_of_write {a : Access} (write : a.info.kind = .dataWrite) :
    a.lines = { ma := a.info.wordLine, mbe := a.info.lanes, mwe := true, md := some a.data } := by
  simp only [Access.lines, write]

theorem Access.lines_of_read {a : Access} (read : a.info.kind ≠ .dataWrite) :
    a.lines = { ma := a.info.wordLine, mbe := 0xF, mwe := false, md := none } := by
  unfold Access.lines
  cases kind : a.info.kind with
  | dataWrite => exact absurd kind read
  | dataRead => rfl
  | fetch => rfl

/-- What the end of an access leaves beside its port, the array and the entries. -/
theorem State.completeAccess_rest (s : State) (n : AgentId) (b : BusAnswer) (r : List FaultReport) :
    let t := s.completeAccess n b r
    (∀ k, k ≠ n → t.port k = s.port k) ∧ t.memPort.grant = none ∧ t.memPort.due = .endOfGrant ∧
      t.memPort.requests = s.memPort.requests ∧ t.waits = s.waits ∧ t.profiles = s.profiles ∧ t.guards = s.guards ∧
      t.timebase = s.timebase ∧ t.phases = s.phases ∧ t.freeIndex = s.freeIndex ∧ t.sram = s.sram := by
  have memPort := State.completeAccess_memPort (s := s) (n := n) (b := b) (r := r)
  obtain ⟨grant, due, requests⟩ := memPort
  refine ⟨fun k other => ?_, grant, due, requests, ?_, ?_, ?_, ?_, ?_, ?_, ?_⟩
  · refine State.completeAccess_keeps (fun t => t.port k) (fun t p => ?_) (fun _ _ => rfl) (fun _ _ _ => rfl)
      (fun _ _ => rfl) (fun _ _ => rfl)
    rw [State.setPort_port, if_neg other.symm]
  · exact State.completeAccess_keeps State.waits (fun _ _ => rfl) (fun _ _ => rfl) (fun _ _ _ => rfl) (fun _ _ => rfl)
      (fun _ _ => rfl)
  · exact State.completeAccess_keeps State.profiles (fun _ _ => rfl) (fun _ _ => rfl) (fun _ _ _ => rfl) (fun _ _ => rfl)
      (fun _ _ => rfl)
  · exact State.completeAccess_keeps State.guards (fun _ _ => rfl) (fun _ _ => rfl) (fun _ _ _ => rfl) (fun _ _ => rfl)
      (fun _ _ => rfl)
  · exact State.completeAccess_keeps State.timebase (fun _ _ => rfl) (fun _ _ => rfl) (fun _ _ _ => rfl) (fun _ _ => rfl)
      (fun _ _ => rfl)
  · exact State.completeAccess_keeps State.phases (fun _ _ => rfl) (fun _ _ => rfl) (fun _ _ _ => rfl) (fun _ _ => rfl)
      (fun _ _ => rfl)
  · exact State.completeAccess_keeps State.freeIndex (fun _ _ => rfl) (fun _ _ => rfl) (fun _ _ _ => rfl) (fun _ _ => rfl)
      (fun _ _ => rfl)
  · exact State.completeAccess_keeps State.sram (fun _ _ => rfl) (fun _ _ => rfl) (fun _ _ _ => rfl) (fun _ _ => rfl)
      (fun _ _ => rfl)

theorem State.sramByte_of_sram {s t : State} (h : t.sram = s.sram) : t.sramByte = s.sramByte := by
  funext b
  rw [State.sramByte, State.sramByte, h]

/-- Settles O17. -/
theorem accessEndsWithMack : Obligations.AccessEndsWithMack := by
  intro s n a m grant strobe marker aligned
  have ma : 4 * a.lines.ma.toNat = a.info.addr.toNat / 4 * 4 := by rw [a.lines_ma, a.info.wordLine_toNat]
  refine ⟨⟨a.lines, MemoryPort.lines_of_agent grant, ma, fun write => ?_, fun read => ?_⟩, _,
    exec_mack_agent grant strobe, ?_⟩
  · rw [Access.lines_of_write write]
    refine ⟨rfl, rfl, fun k hk => ?_⟩
    rw [← a.info.wordLine_toNat, a.info.mem_byteAddresses aligned hk]
  · rw [Access.lines_of_read read]
    exact ⟨rfl, rfl, rfl⟩
  · by_cases write : a.info.kind = .dataWrite
    · have marker' : ((s.takeWord a.lines).port n).marker = some m := by rwa [State.takeWord_port]
      have port := State.completeAccess_port_self (b := .acknowledge) (r := []) marker'
      obtain ⟨others, grant, due, requests, waits, profiles, guards, timebase, phases, freeIndex, sram⟩ :=
        (s.takeWord a.lines).completeAccess_rest n .acknowledge []
      have bytes := s.sramByte_takeWord write aligned
      rw [State.accessDone_of_write write]
      refine ⟨fun _ => ?_, fun read => absurd write read, ?_, fun k other => ?_, grant, due, ?_, ?_, ?_, ?_, ?_, ?_, ?_⟩
      · rw [State.sramByte_of_sram sram]
        exact ⟨fun b hb => by rw [bytes, if_pos hb]; rfl, fun b hb => by rw [bytes, if_neg hb]⟩
      · rw [port, State.takeWord_port, if_pos write]
        simp only [Port.completed, List.append_nil, ite_self]
      · rw [others k other, State.takeWord_port]
      · rw [requests, State.takeWord_memPort]
      · rw [waits, State.takeWord_waits]
      · rw [profiles, State.takeWord_profiles]
      · rw [guards, State.takeWord_guards]
      · rw [timebase, State.takeWord_timebase]
      · rw [phases, State.takeWord_phases]
      · rw [freeIndex, State.takeWord_freeIndex]
    · have port := State.completeAccess_port_self (b := .bytes (s.readBytes a.info)) (r := []) marker
      obtain ⟨others, grant, due, requests, waits, profiles, guards, timebase, phases, freeIndex, sram⟩ :=
        s.completeAccess_rest n (.bytes (s.readBytes a.info)) []
      rw [State.accessDone_of_read write]
      refine ⟨fun write' => absurd write' write, fun _ => sram, ?_, others, grant, due, requests, waits, profiles, guards,
        timebase, phases, freeIndex⟩
      rw [port, if_neg write, s.readBytes_eq a.info aligned]
      simp only [Port.completed, List.append_nil, ite_self]

theorem State.leaveWord_rest (s : State) (x : BitVec 22) :
    ∃ m k, s.leaveWord x = { s with sram := m, freeIndex := k } := ⟨_, _, rfl⟩

/-- Settles O18. -/
theorem accessEndsWithError : Obligations.AccessEndsWithError := by
  intro s n a m e grant strobe marker h
  have outside : ∀ b, b < a.info.addr.toNat / 4 * 4 ∨ a.info.addr.toNat / 4 * 4 + 3 < b →
      (s.leaveWord a.info.wordLine).sramByte b = s.sramByte b := fun b apart =>
    s.sramByte_leaveWord (by rwa [a.info.wordLine_toNat])
  refine ⟨_, exec_merr_agent grant strobe h, ?_⟩
  rw [State.accessFailed]
  obtain ⟨x, k, left⟩ := s.leaveWord_rest a.info.wordLine
  rw [left] at outside ⊢
  have marker' : (State.port { s with sram := x, freeIndex := k } n).marker = some m := marker
  have port := State.completeAccess_port_self (b := busErrorFor a.info.kind)
    (r := [{ info := a.info, reason := .memory }]) marker'
  obtain ⟨others, grant', due, requests, waits, profiles, guards, timebase, phases, -, sram⟩ :=
    State.completeAccess_rest { s with sram := x, freeIndex := k } n (busErrorFor a.info.kind)
      [{ info := a.info, reason := .memory }]
  refine ⟨fun b apart => ?_, ?_, others, grant', due, requests, waits, profiles, guards, timebase, phases⟩
  · rw [State.sramByte_of_sram sram, outside b apart]
  · rw [port, busErrorFor_eq]
    rfl

end Sys2Proof.Machine
end

section
/-! SUPPORT. The words of a chunk, the end of a chunk, and the engine's move behind it (R110 to R113, R116, R119, R182,
R184). -/

namespace Sys2Proof.Machine

/-! ## The engine's move -/

section
variable (s : State)

/-- The engine's move: it takes the pending hold, goes idle, goes on with the next chunk, ends its suspension, or stands
(R113, R116). -/
theorem State.moveEngine_cases :
    (s.scrub.mode = .running ∧ s.scrub.holdPending = true ∧ (s.scrub.queue = [] ∨ s.scrub.sinceGo = 4) ∧
        s.moveEngine = s.setScrub { s.scrub with mode := .suspended, holdPending := false }) ∨
      (s.scrub.mode = .running ∧ s.scrub.holdPending = false ∧ s.scrub.queue = [] ∧
        s.moveEngine = s.setScrub { s.scrub with mode := .idle }) ∨
      (s.scrub.mode = .running ∧ s.scrub.queue ≠ [] ∧ (s.scrub.holdPending = true → s.scrub.sinceGo ≠ 4) ∧
        s.moveEngine = s.requestChunk) ∨
      (s.scrub.mode = .suspending ∧ s.moveEngine = s.setScrub { s.scrub with mode := .suspended }) ∨
      ((s.scrub.mode = .idle ∨ s.scrub.mode = .suspended) ∧ s.moveEngine = s) := by
  cases mode : s.scrub.mode with
  | idle => exact .inr (.inr (.inr (.inr ⟨.inl rfl, by simp only [State.moveEngine, mode]⟩)))
  | suspended => exact .inr (.inr (.inr (.inr ⟨.inr rfl, by simp only [State.moveEngine, mode]⟩)))
  | suspending => exact .inr (.inr (.inr (.inl ⟨rfl, by simp only [State.moveEngine, mode]⟩)))
  | running =>
    have move : s.moveEngine =
        if s.scrub.holdPending && (s.scrub.queue.isEmpty || s.scrub.sinceGo == 4) then
          s.setScrub { s.scrub with mode := .suspended, holdPending := false }
        else if s.scrub.queue.isEmpty then s.setScrub { s.scrub with mode := .idle }
        else s.requestChunk := by simp only [State.moveEngine, mode]
    rw [move]
    cases hold : s.scrub.holdPending with
    | false =>
      rw [Bool.false_and, if_neg Bool.false_ne_true]
      by_cases empty : s.scrub.queue = []
      · rw [if_pos (List.isEmpty_iff.mpr empty)]
        exact .inr (.inl ⟨rfl, rfl, empty, rfl⟩)
      · rw [if_neg (mt List.isEmpty_iff.mp empty)]
        exact .inr (.inr (.inl ⟨rfl, empty, nofun, rfl⟩))
    | true =>
      have taken : (true && (s.scrub.queue.isEmpty || s.scrub.sinceGo == 4)) = true ↔
          s.scrub.queue = [] ∨ s.scrub.sinceGo = 4 := by
        rw [Bool.true_and, Bool.or_eq_true, List.isEmpty_iff, beq_iff_eq]
      by_cases takes : s.scrub.queue = [] ∨ s.scrub.sinceGo = 4
      · rw [if_pos (taken.mpr takes)]
        exact .inl ⟨rfl, rfl, takes, rfl⟩
      · obtain ⟨some_, more⟩ := not_or.mp takes
        rw [if_neg (mt taken.mp takes), if_neg (mt List.isEmpty_iff.mp some_)]
        exact .inr (.inr (.inl ⟨rfl, some_, fun _ => more, rfl⟩))

/-- The move leaves the queue, the progress and the count of chunks since SCRUB-GO. -/
theorem State.moveEngine_scrub : s.moveEngine.scrub = { s.scrub with
    mode := s.moveEngine.scrub.mode, holdPending := s.moveEngine.scrub.holdPending } := by
  rcases s.moveEngine_cases with ⟨-, -, -, e⟩ | ⟨-, -, -, e⟩ | ⟨-, -, -, e⟩ | ⟨-, e⟩ | ⟨-, e⟩
  all_goals rw [e]
  · rfl
  · rfl
  · rw [State.requestChunk_scrub]
  · rfl

theorem State.moveEngine_of_running (mode : s.scrub.mode = .running) (hold : s.scrub.holdPending = false) :
    s.moveEngine.scrub.holdPending = false ∧
      s.moveEngine.scrub.mode = if s.scrub.queue = [] then .idle else .running := by
  rcases s.moveEngine_cases with ⟨-, held, -⟩ | ⟨-, -, empty, e⟩ | ⟨-, some_, -, e⟩ | ⟨other, -⟩ | ⟨other, -⟩
  · rw [hold] at held
    cases held
  · rw [e, if_pos empty]
    exact ⟨hold, rfl⟩
  · rw [e, if_neg some_, State.requestChunk_scrub]
    exact ⟨hold, mode⟩
  · rw [mode] at other
    cases other
  · rw [mode] at other
    rcases other with other | other <;> cases other

theorem State.moveEngine_of_hold (mode : s.scrub.mode = .running) (hold : s.scrub.holdPending = true) :
    (s.scrub.queue = [] ∨ s.scrub.sinceGo = 4 →
        s.moveEngine.scrub.mode = .suspended ∧ s.moveEngine.scrub.holdPending = false) ∧
      (s.scrub.queue ≠ [] → s.scrub.sinceGo ≠ 4 →
        s.moveEngine.scrub.mode = .running ∧ s.moveEngine.scrub.holdPending = true) := by
  rcases s.moveEngine_cases with ⟨-, -, takes, e⟩ | ⟨-, none_, -⟩ | ⟨-, some_, more, e⟩ | ⟨other, -⟩ | ⟨other, -⟩
  · rw [e]
    exact ⟨fun _ => ⟨rfl, rfl⟩, fun some_ more => absurd takes (not_or.mpr ⟨some_, more⟩)⟩
  · rw [hold] at none_
    cases none_
  · rw [e, State.requestChunk_scrub]
    exact ⟨fun takes => absurd takes (not_or.mpr ⟨some_, more hold⟩), fun _ _ => ⟨mode, hold⟩⟩
  · rw [mode] at other
    cases other
  · rw [mode] at other
    rcases other with other | other <;> cases other

theorem State.moveEngine_of_suspending (mode : s.scrub.mode = .suspending) : s.moveEngine.scrub.mode = .suspended := by
  rcases s.moveEngine_cases with ⟨other, -⟩ | ⟨other, -⟩ | ⟨other, -⟩ | ⟨-, e⟩ | ⟨other, -⟩
  · rw [mode] at other; cases other
  · rw [mode] at other; cases other
  · rw [mode] at other; cases other
  · rw [e]
    rfl
  · rw [mode] at other
    rcases other with other | other <;> cases other

/-- An engine that runs on has requested the next chunk of its head (R110, R113). -/
theorem State.moveEngine_requests (runs : s.moveEngine.scrub.mode = .running) {j : EntryId} {l : Lease}
    (head : s.scrub.queue.head? = some j) (lease : (s.entry j).body.lease? = some l) :
    s.moveEngine.memPort.chunk = some { base := l.range.base, number := s.scrub.progress } := by
  rcases s.moveEngine_cases with ⟨-, -, -, e⟩ | ⟨-, -, -, e⟩ | ⟨-, -, -, e⟩ | ⟨-, e⟩ | ⟨stands, e⟩
  all_goals rw [e] at runs ⊢
  · cases runs
  · cases runs
  · obtain ⟨rest, queue⟩ := List.head?_eq_some_iff.mp head
    rw [s.requestChunk_of_head queue lease]
    rfl
  · cases runs
  · rw [runs] at stands
    rcases stands with stands | stands <;> cases stands

/-- An engine that does not run on leaves the Memory Port. -/
theorem State.moveEngine_memPort (stops : s.moveEngine.scrub.mode ≠ .running) : s.moveEngine.memPort = s.memPort := by
  rcases s.moveEngine_cases with ⟨-, -, -, e⟩ | ⟨-, -, -, e⟩ | ⟨mode, -, -, e⟩ | ⟨-, e⟩ | ⟨-, e⟩
  all_goals rw [e] at stops ⊢
  · rfl
  · rfl
  · rw [State.requestChunk_scrub] at stops
    exact absurd mode stops
  · rfl

theorem State.moveEngine_ended {r : Vector (Option Access) 6} (h : s.memPort.Ended r) : s.moveEngine.memPort.Ended r := by
  rcases s.moveEngine_cases with ⟨-, -, -, e⟩ | ⟨-, -, -, e⟩ | ⟨-, -, -, e⟩ | ⟨-, e⟩ | ⟨-, e⟩
  all_goals rw [e]
  · exact h
  · exact h
  · exact State.requestChunk_ended h
  · exact h
  · exact h

end

/-! ## The end of a chunk -/

section
variable {s : State} {i : EntryId} {rest : List EntryId} {l : Lease} (queue : s.scrub.queue = i :: rest)
  (lease : (s.entry i).body.lease? = some l)
include queue lease

/-- A chunk that is not the head's last (R111). -/
theorem State.chunkDone_of_more (more : s.scrub.progress + 1 ≠ 2 ^ (l.range.order - 8)) :
    s.chunkDone = (s.setScrub
      { s.scrub with progress := s.scrub.progress + 1, sinceGo := min 4 (s.scrub.sinceGo + 1) }).moveEngine := by
  simp only [State.chunkDone, queue, lease]
  exact if_neg more

/-- The last chunk frees the head (R112). -/
theorem State.chunkDone_of_last (last : s.scrub.progress + 1 = 2 ^ (l.range.order - 8)) :
    s.chunkDone = ((s.freeEntry i).setScrub
      { s.scrub with queue := rest, progress := 0, sinceGo := min 4 (s.scrub.sinceGo + 1) }).moveEngine := by
  simp only [State.chunkDone, queue, lease]
  exact if_pos last

/-- A chunk that fails takes the head out of the queue (R119). -/
theorem State.chunkFailed_of_head :
    s.chunkFailed = (((s.setEntry i { gen := (s.entry i).gen, body := .faulted l }).setScrub
      { s.scrub with queue := rest, progress := 0 }).raise .scrubFail 0).moveEngine := by
  simp only [State.chunkFailed, queue, lease]

end

/-! ## The words of a chunk -/

theorem State.sramByte_zeros (s : State) {x b : Nat} (above : x ≤ b) (below : b ≤ x + 3) :
    (s.store [(x, 0), (x + 1, 0), (x + 2, 0), (x + 3, 0)]).sramByte b = 0 := by
  refine s.sramByte_store_of_mem ?_ fun c hc _ => ?_
  · have offset : b = x ∨ b = x + 1 ∨ b = x + 2 ∨ b = x + 3 := by omega
    rcases offset with rfl | rfl | rfl | rfl <;> simp
  · simp only [List.mem_cons, List.not_mem_nil, or_false] at hc
    rcases hc with rfl | rfl | rfl | rfl <;> rfl

theorem State.sramByte_besideZeros (s : State) {x b : Nat} (outside : b < x ∨ x + 3 < b) :
    (s.store [(x, 0), (x + 1, 0), (x + 2, 0), (x + 3, 0)]).sramByte b = s.sramByte b := by
  refine s.sramByte_store_of_notMem _ b fun c hc => ?_
  simp only [List.mem_cons, List.not_mem_nil, or_false] at hc
  rcases hc with rfl | rfl | rfl | rfl <;> dsimp only <;> omega

theorem exec_mack_word {s : State} {c : Chunk} {k : Nat} (grant : s.memPort.grant = some (.chunk c k))
    (strobe : s.memPort.strobe ≠ none) (more : k < 63) :
    exec .mack s = .next ((s.takeWord (c.lines k)).setMemPort (s.memPort.nextWord c k)) := by
  have e : exec .mack s = .next s.wordDone := rfl
  rw [e, State.wordDone_of_chunkWord (MemoryPort.wordInProgress_of_grant grant strobe) more]

theorem exec_mack_lastWord {s : State} {c : Chunk} {k : Nat} (grant : s.memPort.grant = some (.chunk c k))
    (strobe : s.memPort.strobe ≠ none) (last : 63 ≤ k) :
    exec .mack s = .next ((s.takeWord (c.lines k)).setMemPort s.memPort.endGrant).chunkDone := by
  have e : exec .mack s = .next s.wordDone := rfl
  rw [e, State.wordDone_of_lastWord (MemoryPort.wordInProgress_of_grant grant strobe) last]

theorem exec_merr_chunk {s : State} {c : Chunk} {k : Nat} {e : Instr} (grant : s.memPort.grant = some (.chunk c k))
    (strobe : s.memPort.strobe ≠ none) (h : e = .merr false ∨ e = .merr true ∨ e = .acknowledgeTimeout) :
    exec e s = .next ((s.leaveWord (c.wordLine k)).setMemPort s.memPort.endGrant).chunkFailed := by
  rw [exec_merr h, State.wordFailed_of_chunk (MemoryPort.wordInProgress_of_grant grant strobe)]

/-- Settles O21. -/
theorem chunkFailureFaultsTheHead : Obligations.ChunkFailureFaultsTheHead := by
  intro s c k e i rest g o l grant strobe h queue entry
  have outside : ∀ b, b < 4 * (c.wordLine k).toNat ∨ 4 * (c.wordLine k).toNat + 3 < b →
      (s.leaveWord (c.wordLine k)).sramByte b = s.sramByte b := fun b apart => s.sramByte_leaveWord apart
  refine ⟨_, exec_merr_chunk grant strobe h, ?_⟩
  obtain ⟨x, m, left⟩ := s.leaveWord_rest (c.wordLine k)
  rw [left] at outside ⊢
  have queue' : (State.setMemPort { s with sram := x, freeIndex := m } s.memPort.endGrant).scrub.queue = i :: rest := queue
  have lease : ((State.setMemPort { s with sram := x, freeIndex := m } s.memPort.endGrant).entry i).body.lease? = some l :=
    (congrArg (fun e => e.body.lease?) entry).trans rfl
  have gen : (State.entry { s with sram := x, freeIndex := m } i).gen = g := congrArg Entry.gen entry
  rw [State.chunkFailed_of_head queue' lease, State.setMemPort_entry, gen]
  generalize before : (((State.setMemPort { s with sram := x, freeIndex := m } s.memPort.endGrant).setEntry i
    { gen := g, body := .faulted l }).setScrub
      { (State.setMemPort { s with sram := x, freeIndex := m } s.memPort.endGrant).scrub with
        queue := rest, progress := 0 }).raise .scrubFail 0 = u
  have scrub : u.scrub = { s.scrub with queue := rest, progress := 0 } := by rw [← before]; rfl
  have memPort : u.memPort = s.memPort.endGrant := by rw [← before]; rfl
  have entries : ∀ j, u.entry j = if i = j then { gen := g, body := .faulted l } else s.entry j := fun j => by
    rw [← before, State.raise_entry, State.setScrub_entry, State.setEntry_entry]
    rfl
  have rest_ : u.manager = s.manager ∧ u.ports = s.ports ∧ u.waits = s.waits ∧ u.guards = s.guards ∧
      u.timebase = s.timebase ∧ u.phases = s.phases ∧ u.leases.inForce = s.leases.inForce ∧
      u.leases.ticksDue = s.leases.ticksDue ∧ u.leases.sequencerClaims = s.leases.sequencerClaims ∧ u.sram = x := by
    rw [← before]
    exact ⟨rfl, rfl, rfl, rfl, rfl, rfl, rfl, rfl, rfl, rfl⟩
  have profile : u.profile 0 = { s.profile 0 with status := (s.profile 0).status ||| 0x100 } ∧
      ∀ n, n ≠ 0 → u.profile n = s.profile n := by
    rw [← before]
    exact ⟨State.raise_profile_self _ _ _, fun n other => State.raise_profile_ne _ _ other.symm⟩
  clear before
  obtain ⟨manager, ports, waits, guards, timebase, phases, inForce, ticksDue, claims, sram⟩ := rest_
  obtain ⟨supervisor, others⟩ := profile
  have moved := u.moveEngine_scrub
  have ended : u.moveEngine.memPort.Ended s.memPort.requests := u.moveEngine_ended (by rw [memPort]; exact ⟨rfl, rfl, rfl⟩)
  obtain ⟨free, due, requests⟩ := ended
  have mode : u.scrub.mode = s.scrub.mode := by rw [scrub]
  have hold : u.scrub.holdPending = s.scrub.holdPending := by rw [scrub]
  have since : u.scrub.sinceGo = s.scrub.sinceGo := by rw [scrub]
  have progress : u.scrub.progress = 0 := by rw [scrub]
  have queued : u.scrub.queue = rest := by rw [scrub]
  have bytes : ∀ b, u.moveEngine.sramByte b = State.sramByte { s with sram := x, freeIndex := m } b := fun b => by
    rw [State.sramByte, State.sramByte, u.moveEngine_sram, sram]
  refine ⟨?_, fun j other => ?_, ?_, ?_, ?_, ?_, ?_, fun n other => ?_, ?_, ?_, free, due, fun b apart => ?_,
    fun running none_ => ?_, fun running held empty => ?_, fun running held some_ more => ?_, fun suspending => ?_,
    fun runs j y head lease => ?_, fun _ stops => ?_, requests, ?_, ?_, ?_, ?_, ?_, ?_⟩
  · rw [u.moveEngine_entry, entries, if_pos rfl]
  · rw [u.moveEngine_entry, entries, if_neg other.symm]
  · rw [moved, queued]
  · rw [moved, progress]
  · rw [moved, since]
  · rw [u.moveEngine_manager, manager]
  · rw [u.moveEngine_profile, supervisor]
  · rw [u.moveEngine_profile, others n other]
  · rw [u.moveEngine_ports, ports]
  · rw [u.moveEngine_waits, waits]
  · rw [bytes b, outside b apart]
  · obtain ⟨-, goes⟩ := u.moveEngine_of_running (mode.trans running) (hold.trans none_)
    rw [goes, queued]
  · exact (u.moveEngine_of_hold (mode.trans running) (hold.trans held)).1 (.inl (queued.trans empty))
  · refine (u.moveEngine_of_hold (mode.trans running) (hold.trans held)).2 (by rwa [queued]) ?_
    rw [since]
    exact Nat.ne_of_lt more
  · exact u.moveEngine_of_suspending (mode.trans suspending)
  · rw [u.moveEngine_entry] at lease
    rw [u.moveEngine_requests runs (by rwa [queued]) lease, progress]
  · rw [u.moveEngine_memPort stops, memPort]
    rfl
  · rw [u.moveEngine_guards, guards]
  · rw [u.moveEngine_timebase, timebase]
  · rw [u.moveEngine_phases, phases]
  · rw [u.moveEngine_leases, inForce]
  · rw [u.moveEngine_leases, ticksDue]
  · rw [u.moveEngine_leases, claims]

/-- Settles O20. -/
theorem chunkWordsAndCompletion : Obligations.ChunkWordsAndCompletion := by
  intro s c k x grant word
  have zeros : s.takeWord (c.lines k) = s.store [(x, 0), (x + 1, 0), (x + 2, 0), (x + 3, 0)] := by
    rw [Chunk.takeWord_lines s c k, word]
  refine ⟨fun aligned fits => by rw [word, c.wordLine_toNat k aligned fits], ?_, fun strobe more => ?_,
    fun strobe last i rest g o l queue entry => ?_⟩
  · simp only [MemoryPort.lines, grant, Chunk.lines]
  · rw [exec_mack_word grant strobe more, zeros]
    rfl
  · refine ⟨_, exec_mack_lastWord grant strobe last, ?_⟩
    rw [zeros]
    have inside := fun b => s.sramByte_zeros (x := x) (b := b)
    have outside := fun b => s.sramByte_besideZeros (x := x) (b := b)
    have lease : (s.entry i).body.lease? = some l := (congrArg (fun e => e.body.lease?) entry).trans rfl
    have gen : (s.entry i).gen = g := congrArg Entry.gen entry
    -- the state behind the word, and the one that the engine moves on from
    generalize stored : (s.store [(x, 0), (x + 1, 0), (x + 2, 0), (x + 3, 0)]).setMemPort s.memPort.endGrant = w
    have bytes : w.sramByte = (s.store [(x, 0), (x + 1, 0), (x + 2, 0), (x + 3, 0)]).sramByte := by rw [← stored]; rfl
    rw [← bytes] at inside outside
    have same : w.leases = s.leases ∧ w.scrub = s.scrub ∧ w.manager = s.manager ∧ w.memPort = s.memPort.endGrant ∧
        w.ports = s.ports ∧ w.waits = s.waits ∧ w.profiles = s.profiles ∧ w.guards = s.guards ∧
        w.timebase = s.timebase ∧ w.phases = s.phases := by
      rw [← stored]
      exact ⟨rfl, rfl, rfl, rfl, rfl, rfl, rfl, rfl, rfl, rfl⟩
    clear stored bytes zeros
    obtain ⟨leases, scrub, manager, memPort, ports, waits, profiles, guards, timebase, phases⟩ := same
    have entries : ∀ j, w.entry j = s.entry j := fun j => by rw [State.entry, State.entry, leases]
    have queue' : w.scrub.queue = i :: rest := by rw [scrub, queue]
    have lease' : (w.entry i).body.lease? = some l := by rw [entries i, lease]
    have moves : ∃ u : State, w.chunkDone = u.moveEngine ∧ u.scrub.mode = s.scrub.mode ∧
        u.scrub.holdPending = s.scrub.holdPending ∧ u.scrub.sinceGo = min 4 (s.scrub.sinceGo + 1) ∧
        u.memPort = w.memPort ∧ u.ports = w.ports ∧ u.waits = w.waits ∧ u.profiles = w.profiles ∧
        u.guards = w.guards ∧ u.timebase = w.timebase ∧ u.phases = w.phases ∧ u.sram = w.sram ∧
        (s.scrub.progress + 1 ≠ 2 ^ (l.range.order - 8) → u.scrub.queue = i :: rest ∧
          u.scrub.progress = s.scrub.progress + 1 ∧ u.leases = s.leases ∧ u.manager = s.manager) ∧
        (s.scrub.progress + 1 = 2 ^ (l.range.order - 8) → u.scrub.queue = rest ∧ u.scrub.progress = 0 ∧
          u.entry i = { gen := g, body := .free } ∧ (∀ j, j ≠ i → u.entry j = s.entry j) ∧
          u.manager = { s.manager with reexamine := true }) := by
      by_cases all : s.scrub.progress + 1 = 2 ^ (l.range.order - 8)
      · refine ⟨_, State.chunkDone_of_last queue' lease' (by rw [scrub, all]), ?_⟩
        rw [scrub]
        refine ⟨rfl, rfl, rfl, rfl, rfl, rfl, rfl, rfl, rfl, rfl, rfl, fun more => absurd all more, fun _ =>
          ⟨rfl, rfl, ?_, fun j other => ?_, ?_⟩⟩
        · rw [State.setScrub_entry, State.freeEntry_entry, if_pos rfl, entries i, gen]
        · rw [State.setScrub_entry, State.freeEntry_entry, if_neg other.symm, entries j]
        · rw [← manager]
          rfl
      · refine ⟨_, State.chunkDone_of_more queue' lease' (by rw [scrub]; exact all), ?_⟩
        rw [scrub]
        exact ⟨rfl, rfl, rfl, rfl, rfl, rfl, rfl, rfl, rfl, rfl, rfl, fun _ => ⟨queue, rfl, leases, manager⟩,
          fun last => absurd last all⟩
    obtain ⟨u, e, mode, hold, since, memPort', ports', waits', profiles', guards', timebase', phases', sram, more, all⟩ :=
      moves
    rw [e]
    clear e
    have moved := u.moveEngine_scrub
    have ended : u.moveEngine.memPort.Ended s.memPort.requests :=
      u.moveEngine_ended (by rw [memPort', memPort]; exact ⟨rfl, rfl, rfl⟩)
    obtain ⟨free, due, requests⟩ := ended
    have bytes : u.moveEngine.sramByte = w.sramByte := State.sramByte_of_sram (by rw [u.moveEngine_sram, sram])
    have queued : u.moveEngine.scrub.queue = u.scrub.queue := by rw [moved]
    have progress : u.moveEngine.scrub.progress = u.scrub.progress := by rw [moved]
    have counted : u.moveEngine.scrub.sinceGo = u.scrub.sinceGo := by rw [moved]
    rw [bytes, queued, progress, counted]
    simp only [u.moveEngine_entry, u.moveEngine_leases, u.moveEngine_manager]
    refine ⟨outside, inside, free, due, requests, since, more, all, fun running none_ => ?_, fun running held => ?_,
      fun suspending => u.moveEngine_of_suspending (mode.trans suspending), fun runs j y head lease =>
      u.moveEngine_requests runs head lease, fun _ stops => ?_, ?_, ?_, ?_, ?_, ?_, ?_⟩
    · exact u.moveEngine_of_running (mode.trans running) (hold.trans none_)
    · exact u.moveEngine_of_hold (mode.trans running) (hold.trans held)
    · rw [u.moveEngine_memPort stops, memPort', memPort]
      rfl
    · rw [u.moveEngine_ports, ports', ports]
    · rw [u.moveEngine_waits, waits', waits]
    · rw [u.moveEngine_profiles, profiles', profiles]
    · rw [u.moveEngine_guards, guards', guards]
    · rw [u.moveEngine_timebase, timebase', timebase]
    · rw [u.moveEngine_phases, phases', phases]

end Sys2Proof.Machine
end

section
/-! SUPPORT. The words that a command reads out: packed fields, and what QUERY, PROFILE and FAULT report (R41, R56, R58,
R60 to R62). -/

namespace Sys2Proof.Machine

/-! ## Packed fields -/

/-- A field of a word: where it begins, how many bits it has, its value. -/
structure WordField where
  lo : Nat
  len : Nat
  value : Nat

/-- The word with one field after another placed beside w. -/
def packFields (w : Word) (fs : List WordField) : Word := fs.foldl (fun w f => w ||| place f.lo f.value) w

/-- The fields rise from bit hi without overlap, stay in the word, and hold their values. -/
def FieldsFit : Nat → List WordField → Prop
  | _, [] => True
  | hi, f :: fs => hi ≤ f.lo ∧ f.value < 2 ^ f.len ∧ f.lo + f.len ≤ 32 ∧ FieldsFit (f.lo + f.len) fs

theorem toNat_packFields : ∀ (fs : List WordField) {w : Word} {hi : Nat}, w.toNat < 2 ^ hi → FieldsFit hi fs →
    (packFields w fs).toNat = w.toNat + (fs.map fun f => 2 ^ f.lo * f.value).sum
  | [], _, _, _, _ => rfl
  | f :: fs, w, hi, below, fit => by
    obtain ⟨rises, holds, inside, rest⟩ := fit
    have top : f.value * 2 ^ f.lo + 2 ^ f.lo ≤ 2 ^ (f.lo + f.len) := by
      rw [← Nat.succ_mul, Nat.pow_add, Nat.mul_comm (2 ^ f.lo)]
      exact Nat.mul_le_mul_right _ holds
    have below' : w.toNat < 2 ^ f.lo := Nat.lt_of_lt_of_le below (Nat.pow_le_pow_right (by decide) rises)
    have whole : 2 ^ (f.lo + f.len) ≤ 2 ^ 32 := Nat.pow_le_pow_right (by decide) inside
    have placed : (w ||| place f.lo f.value).toNat = w.toNat + f.value * 2 ^ f.lo :=
      toNat_or_place below' (by omega)
    have next := toNat_packFields fs (w := w ||| place f.lo f.value) (by rw [placed]; omega) rest
    have step : packFields w (f :: fs) = packFields (w ||| place f.lo f.value) fs := rfl
    rw [step, next, placed, List.map_cons, List.sum_cons, Nat.mul_comm (2 ^ f.lo)]
    omega

/-- A word that is fields beside one another has the sum of their weights. -/
theorem toNat_fields {f : WordField} {fs : List WordField} (fit : FieldsFit 0 (f :: fs)) :
    (packFields (place f.lo f.value) fs).toNat = ((f :: fs).map fun f => 2 ^ f.lo * f.value).sum := by
  have start : packFields (place f.lo f.value) fs = packFields 0 (f :: fs) := by
    have beside : (0 : Word) ||| place f.lo f.value = place f.lo f.value := BitVec.zero_or
    rw [packFields, packFields, List.foldl_cons, beside]
  rw [start, toNat_packFields (f :: fs) (w := 0) (hi := 0) (by decide) fit]
  exact Nat.zero_add _

/-! ## PROFILE -/

theorem State.profileReply_words {s : State} (profiles : s.ProfileLaw) (quotas : s.QuotaLaw) (waits : s.WaitLaw)
    (m : AgentId) :
    (s.profileReply m).r0.toNat = (s.profile m).enabled.toNat + 2 * (s.profile m).locked.toNat
        + 2 ^ 8 * (s.profile m).leaseQuota + 2 ^ 16 * (s.profile m).pageQuota ∧
      (s.profileReply m).r1.toNat = s.leasesHeld m + 2 ^ 16 * s.pagesHeld m ∧
      (s.profileReply m).r2.toNat = (s.profile m).status.toNat + 2 ^ 16 * (s.profile m).enable.toNat
        + 2 ^ 28 * s.waitsHeld m + 2 ^ 31 * (s.profile m).latch.isSome.toNat := by
  obtain ⟨-, limits⟩ := profiles
  obtain ⟨leaseLimit, pageLimit⟩ := limits m
  obtain ⟨leases, pages⟩ := quotas m
  obtain ⟨-, -, waiting⟩ := waits
  have waitsHeld := waiting m
  have bool : ∀ b : Bool, b.toNat < 2 := Bool.toNat_lt
  have status : (s.profile m).status.toNat < 512 := (s.profile m).status.isLt
  have enable : (s.profile m).enable.toNat < 512 := (s.profile m).enable.isLt
  refine ⟨?_, ?_, ?_⟩
  · refine (toNat_fields (f := ⟨0, 1, (s.profile m).enabled.toNat⟩) (fs := [⟨1, 1, (s.profile m).locked.toNat⟩,
      ⟨8, 8, (s.profile m).leaseQuota⟩, ⟨16, 16, (s.profile m).pageQuota⟩]) ?_).trans ?_
    · have first := bool (s.profile m).enabled
      have second := bool (s.profile m).locked
      simp only [FieldsFit, and_true]
      omega
    · simp only [List.map_cons, List.map_nil, List.sum_cons, List.sum_nil]
      omega
  · refine (toNat_fields (f := ⟨0, 16, s.leasesHeld m⟩) (fs := [⟨16, 16, s.pagesHeld m⟩]) ?_).trans ?_
    · simp only [FieldsFit, and_true]
      omega
    · simp only [List.map_cons, List.map_nil, List.sum_cons, List.sum_nil]
      omega
  · refine (toNat_fields (f := ⟨0, 9, (s.profile m).status.toNat⟩) (fs := [⟨16, 9, (s.profile m).enable.toNat⟩,
      ⟨28, 3, s.waitsHeld m⟩, ⟨31, 1, (s.profile m).latch.isSome.toNat⟩]) ?_).trans ?_
    · have latch := bool (s.profile m).latch.isSome
      simp only [FieldsFit, and_true]
      omega
    · simp only [List.map_cons, List.map_nil, List.sum_cons, List.sum_nil]
      omega

/-! ## FAULT -/

theorem faultResults_toNat (x : Latch) :
    (faultResult0 (some x)).toNat = x.info.addr.toNat + 2 ^ 24 * x.info.kind.code + 2 ^ 26 * x.info.size.code
        + 2 ^ 28 * x.info.priv.code + 2 ^ 31 ∧
      (faultResult1 (some x)).toNat = x.reason.code + 2 ^ 8 * x.further.toNat := by
  have addr : x.info.addr.toNat < 2 ^ 24 := x.info.addr.isLt
  have further : x.further.toNat < 2 ^ 7 := x.further.isLt
  have kind : x.info.kind.code < 4 := by cases x.info.kind <;> decide
  have size : x.info.size.code < 4 := by cases x.info.size <;> decide
  have priv : x.info.priv.code < 2 := by cases x.info.priv <;> decide
  have reason : x.reason.code < 8 := by cases x.reason <;> decide
  -- the valid bit is kept apart as v, so that no check meets 2 ^ 31 as a numeral
  have first : ∀ v, v = 1 → (faultResult0 (some x)).toNat = x.info.addr.toNat + 2 ^ 24 * x.info.kind.code
      + 2 ^ 26 * x.info.size.code + 2 ^ 28 * x.info.priv.code + 2 ^ 31 * v := by
    intro v one
    have word : faultResult0 (some x) = packFields (place 0 x.info.addr.toNat) [⟨24, 2, x.info.kind.code⟩,
        ⟨26, 2, x.info.size.code⟩, ⟨28, 1, x.info.priv.code⟩, ⟨31, 1, v⟩] := by
      simp only [faultResult0, packFields, List.foldl_cons, List.foldl_nil, one]
    rw [word]
    refine (toNat_fields (f := ⟨0, 24, x.info.addr.toNat⟩) ?_).trans ?_
    · simp only [FieldsFit, and_true]
      omega
    · simp only [List.map_cons, List.map_nil, List.sum_cons, List.sum_nil]
      omega
  have second : faultResult1 (some x) = packFields (place 0 x.reason.code) [⟨8, 7, x.further.toNat⟩] := by
    simp only [faultResult1, packFields, List.foldl_cons, List.foldl_nil]
  refine ⟨(first 1 rfl).trans (by rw [Nat.mul_one]), ?_⟩
  rw [second]
  refine (toNat_fields (f := ⟨0, 3, x.reason.code⟩) ?_).trans ?_
  · simp only [FieldsFit, and_true]
    omega
  · simp only [List.map_cons, List.map_nil, List.sum_cons, List.sum_nil]
    omega

/-- Settles O39. -/
theorem profileAndFaultReport : Obligations.ProfileAndFaultReport := by
  intro s n ps
  refine ⟨fun run profiles quotas waits => ⟨fun bad => ?_, fun m named => ⟨fun other apart => ?_, fun may => ?_⟩⟩,
    fun run => ⟨fun empty => ?_, fun x valid => ?_⟩⟩
  · exact exec_of_refuse (c := .profile) run (by simp only [Command.run, State.readProfile, agentField_of_ge bad])
  · exact exec_of_refuse (c := .profile) run
      (by simp only [Command.run, State.readProfile, agentField_of_lt named, if_pos (And.intro other apart)])
  · have passes : ¬(n ≠ 0 ∧ m ≠ n) := fun ⟨other, apart⟩ => may.elim other apart
    have e : Command.profile.run n ps s = (s, s.profileReply m) := by
      simp only [Command.run, State.readProfile, agentField_of_lt named, if_neg passes]
    exact ⟨_, _, _, exec_of_run run e rfl, State.profileReply_words profiles quotas waits m⟩
  · have stays : s.setProfile n { s.profile n with latch := none } = s := by
      have same : ({ s.profile n with latch := none } : Profile) = s.profile n := by rw [← empty]
      rw [same]
      simp only [State.setProfile, State.profile, Fin.getElem_fin, Vector.set_getElem_self]
    have e : Command.fault.run n ps s = (s, { status := .ok }) := by
      simp only [Command.run, State.readFault, empty, stays, faultResult0, faultResult1]
    exact exec_of_run run e rfl
  · have e : Command.fault.run n ps s = (s.setProfile n { s.profile n with latch := none },
        { status := .ok, r0 := faultResult0 (some x), r1 := faultResult1 (some x) }) := by
      simp only [Command.run, State.readFault, valid]
    obtain ⟨first, second⟩ := faultResults_toNat x
    refine ⟨_, _, x.info.kind.code, x.info.size.code, x.info.priv.code, x.reason.code, exec_of_run run e rfl, first,
      second, ?_⟩
    refine ⟨?_, ?_, ?_, ?_, ?_, ?_, ?_, ?_, ?_, ?_, ?_, ?_, ?_, ?_, ?_⟩
    all_goals
      intro named
      rw [named]
      rfl

end Sys2Proof.Machine
end

section
/-! SUPPORT. QUERY: its checks and its two views (R56, R60 to R62). -/

namespace Sys2Proof.Machine

/-! ## The fields of the results -/

theorem orSeven_lt {k : Nat} (h : k ≤ 8) (x : Option (Fin k)) : orSeven x < 8 := by
  cases x with
  | none => exact (by decide : 7 < 8)
  | some x => exact Nat.lt_of_lt_of_le x.isLt h

theorem Rights.code_lt (r : Rights) : r.code < 8 := by
  obtain ⟨a, b, c⟩ := r
  revert a b c
  decide

theorem EntryBody.stateCode_lt (b : EntryBody) : b.stateCode < 4 := by
  cases b with
  | free => decide
  | active o l x => exact (by decide : 1 < 4)
  | retiring o l d => exact (by decide : 2 < 4)
  | faulted l => exact (by decide : 3 < 4)

theorem Life.modeCode_lt (l : Life) : l.modeCode < 4 := by
  cases l with
  | pinned => exact (by decide : 2 < 4)
  | timed m k =>
    cases m with
    | fixed => exact (by decide : 0 < 4)
    | activity => exact (by decide : 1 < 4)

theorem Share.code_lt (x : Share) : x.code < 4 := by cases x <;> decide

theorem Floor.code_lt (x : Floor) : x.code < 2 := by cases x <;> decide

theorem Disposition.code_lt (x : Disposition) : x.code < 2 := by cases x <;> decide

/-- The bit of Effective, 0 where the lease is unslotted (R62). -/
def Lease.effectiveBit (l : Lease) : Bool :=
  match l.slot with
  | some y => y.effective
  | none => false

/-- The fields of a countdown have 16 bits (R1, R64, R140). -/
theorem Life.countdown_lt {l : Life} (sound : ∀ m c, l = .timed m c → c.Sound) :
    l.countdown.remaining < 2 ^ 16 ∧ l.countdown.term < 2 ^ 16 ∧ l.countdown.warn < 2 ^ 16 := by
  cases l with
  | pinned => exact ⟨by decide, by decide, by decide⟩
  | timed m c =>
    obtain ⟨warn, term, remaining, -⟩ := sound m c rfl
    exact ⟨Nat.lt_of_le_of_lt remaining term, term, Nat.lt_trans warn term⟩

/-! ## The words of QUERY -/

theorem queryResult0_toNat (e : Entry) {l : Lease} (order : l.range.order < 32) :
    (queryResult0 e l).toNat = e.gen.toNat + 2 ^ 8 * orSeven e.body.owner? + 2 ^ 11 * e.body.drainBit.toNat
      + 2 ^ 12 * (l.range.base.toNat / 4096) + 2 ^ 24 * l.range.order
      + 2 ^ 29 * l.life.countdown.warned.toNat + 2 ^ 30 * e.body.stateCode := by
  have gen : e.gen.toNat < 256 := e.gen.isLt
  have base : l.range.base.toNat < 2 ^ 24 := l.range.base.isLt
  have owner := orSeven_lt (by decide) e.body.owner?
  have drain := Bool.toNat_lt e.body.drainBit
  have warned := Bool.toNat_lt l.life.countdown.warned
  have state := e.body.stateCode_lt
  have word : queryResult0 e l = packFields (place 0 e.gen.toNat) [⟨8, 3, orSeven e.body.owner?⟩,
      ⟨11, 1, e.body.drainBit.toNat⟩, ⟨12, 12, l.range.base.toNat / 4096⟩, ⟨24, 5, l.range.order⟩,
      ⟨29, 1, l.life.countdown.warned.toNat⟩, ⟨30, 2, e.body.stateCode⟩] := by
    simp only [queryResult0, placeBit, packFields, List.foldl_cons, List.foldl_nil]
  rw [word]
  refine (toNat_fields (f := ⟨0, 8, e.gen.toNat⟩) ?_).trans ?_
  · simp only [FieldsFit, and_true]
    omega
  · simp only [List.map_cons, List.map_nil, List.sum_cons, List.sum_nil]
    omega

theorem queryResult1_toNat {l : Lease} (sound : ∀ m c, l.life = .timed m c → c.Sound) :
    (queryResult1 l).toNat = l.life.countdown.remaining + 2 ^ 16 * l.life.countdown.term := by
  obtain ⟨remaining, term, -⟩ := Life.countdown_lt sound
  have word : queryResult1 l = packFields (place 0 l.life.countdown.remaining) [⟨16, 16, l.life.countdown.term⟩] := by
    simp only [queryResult1, packFields, List.foldl_cons, List.foldl_nil]
  rw [word]
  refine (toNat_fields (f := ⟨0, 16, l.life.countdown.remaining⟩) ?_).trans ?_
  · simp only [FieldsFit, and_true]
    omega
  · simp only [List.map_cons, List.map_nil, List.sum_cons, List.sum_nil]
    omega

theorem queryResult2_toNat (e : Entry) {l : Lease} (sound : ∀ m c, l.life = .timed m c → c.Sound) :
    (queryResult2 e l).toNat = l.life.countdown.warn + 2 ^ 16 * l.rights.code + 2 ^ 19 * l.floor.code
      + 2 ^ 20 * l.share.code + 2 ^ 22 * l.life.modeCode + 2 ^ 24 * l.disposition.code
      + 2 ^ 25 * orSeven l.phase + 2 ^ 28 * l.effectiveBit.toNat + 2 ^ 29 * orSeven e.body.offer? := by
  obtain ⟨-, -, warn⟩ := Life.countdown_lt sound
  have rights := l.rights.code_lt
  have floor := l.floor.code_lt
  have share := l.share.code_lt
  have mode := l.life.modeCode_lt
  have disposition := l.disposition.code_lt
  have phase := orSeven_lt (by decide) l.phase
  have effective := Bool.toNat_lt l.effectiveBit
  have offer := orSeven_lt (by decide) e.body.offer?
  have word : queryResult2 e l = packFields (place 0 l.life.countdown.warn) [⟨16, 3, l.rights.code⟩,
      ⟨19, 1, l.floor.code⟩, ⟨20, 2, l.share.code⟩, ⟨22, 2, l.life.modeCode⟩, ⟨24, 1, l.disposition.code⟩,
      ⟨25, 3, orSeven l.phase⟩, ⟨28, 1, l.effectiveBit.toNat⟩, ⟨29, 3, orSeven e.body.offer?⟩] := by
    simp only [packFields, List.foldl_cons, List.foldl_nil]
    rfl
  rw [word]
  refine (toNat_fields (f := ⟨0, 16, l.life.countdown.warn⟩) ?_).trans ?_
  · simp only [FieldsFit, and_true]
    omega
  · simp only [List.map_cons, List.map_nil, List.sum_cons, List.sum_nil]
    omega

theorem ScrubEngine.standing_toNat {x : ScrubEngine} (i : EntryId) (bounded : x.progress ≤ 65536) :
    (x.standing i).toNat = (if x.queue.head? = some i then x.progress + 2 ^ 31 else 0)
      + (if i ∈ x.queue then 2 ^ 30 else 0) := by
  have head : x.isHead i = true ↔ x.queue.head? = some i := beq_iff_eq
  have queued := Bool.toNat_lt (x.queue.contains i)
  have heads := Bool.toNat_lt (x.isHead i)
  have done : (if x.isHead i then x.progress else 0) ≤ 65536 := by split <;> omega
  have word : x.standing i = packFields (place 0 (if x.isHead i then x.progress else 0))
      [⟨30, 1, (x.queue.contains i).toNat⟩, ⟨31, 1, (x.isHead i).toNat⟩] := by
    simp only [ScrubEngine.standing, placeBit, packFields, List.foldl_cons, List.foldl_nil]
  have value : (x.standing i).toNat = (if x.isHead i then x.progress else 0) + 2 ^ 30 * (x.queue.contains i).toNat
      + 2 ^ 31 * (x.isHead i).toNat := by
    rw [word]
    refine (toNat_fields (f := ⟨0, 17, if x.isHead i then x.progress else 0⟩) ?_).trans ?_
    · simp only [FieldsFit, and_true]
      omega
    · simp only [List.map_cons, List.map_nil, List.sum_cons, List.sum_nil]
      omega
  simp only [value, ← head, ← List.contains_iff_mem]
  generalize 2 ^ 30 = a
  generalize 2 ^ 31 = b
  cases x.isHead i <;> cases x.queue.contains i <;> simp [Nat.add_right_comm]

/-! ## The checks of QUERY -/

theorem Entry.visibleTo_iff (e : Entry) (n : AgentId) :
    e.visibleTo n = true ↔ n = 0 ∨ e.body.owner? = some n ∨ e.body.offer? = some n := by
  simp only [Entry.visibleTo, Bool.or_eq_true, beq_iff_eq, or_assoc]

section
variable {s : State} {n : AgentId} {ps : Vector Word 8} {h : Handle} {l : Lease} (handle : Handle.ofWord ps[0] = h)
include handle

theorem State.query_of_stale (stale : (s.entry h.entry).gen ≠ h.gen ∨ (s.entry h.entry).body = .free) :
    State.query n ps s = refuse s .stale := by
  simp only [State.query, handle]
  rcases stale with gen | free
  · exact if_pos gen
  · rw [free]
    exact ite_self _

theorem State.query_of_lease (gen : (s.entry h.entry).gen = h.gen) (lease : (s.entry h.entry).body.lease? = some l) :
    State.query n ps s =
      if !(s.entry h.entry).visibleTo n then refuse s .notOwner
      else if bit ps[1] 0 then
        (s, { status := .ok, r0 := queryResult0 (s.entry h.entry) l, r1 := s.scrub.standing h.entry,
              r2 := place 0 l.range.chunks })
      else
        (s, { status := .ok, r0 := queryResult0 (s.entry h.entry) l, r1 := queryResult1 l,
              r2 := queryResult2 (s.entry h.entry) l }) := by
  simp only [State.query, handle, lease, ne_eq, gen, not_true_eq_false, if_false]

end

/-- Settles O37. -/
theorem queryReportsTheEntry : Obligations.QueryReportsTheEntry := by
  refine ⟨fun o p l t f d => ⟨rfl, rfl, rfl, rfl, rfl, rfl, rfl, rfl, rfl, rfl, rfl, rfl, rfl, rfl, rfl, rfl, rfl⟩,
    fun r m k => ⟨rfl, rfl, rfl, rfl, rfl, rfl, rfl, rfl, rfl, rfl, rfl, rfl, rfl⟩, ?_⟩
  intro s n ps h e run fields countdowns entryField genField entry
  have handle := Handle.ofWord_eq entryField genField
  subst entry
  refine ⟨fun stale => exec_of_refuse (c := .query) run (State.query_of_stale handle stale), fun l gen lease => ?_⟩
  have query : Command.query.run n ps s = _ := State.query_of_lease handle gen lease
  refine ⟨fun other owner offer => ?_, fun sees => ?_⟩
  · have hidden : (s.entry h.entry).visibleTo n = false := Bool.eq_false_iff.mpr fun visible => by
      rcases (Entry.visibleTo_iff _ n).mp visible with zero | owns | offered
      · exact other zero
      · exact owner owns
      · exact offer offered
    exact exec_of_refuse (c := .query) run (query.trans (if_pos (by rw [hidden]; rfl)))
  · obtain ⟨leases, -⟩ := fields
    obtain ⟨sounds, -, -⟩ := countdowns
    obtain ⟨valid, -⟩ := leases h.entry l lease
    obtain ⟨-, order, -⟩ := (l.range.valid_iff).mp valid
    have sound := fun m c => sounds h.entry l m c lease
    replace query := query.trans (if_neg (by rw [(Entry.visibleTo_iff _ n).mpr sees]; decide))
    have first := queryResult0_toNat (s.entry h.entry) (l := l) (by omega)
    cases view : bit ps[1] 0 with
    | true =>
      refine ⟨_, _, _, exec_of_run (c := .query) run (query.trans (if_pos view)) rfl, first, nofun, fun _ bounded =>
        ⟨ScrubEngine.standing_toNat h.entry bounded, ?_⟩⟩
      have chunks : 2 ^ (l.range.order - 8) ≤ 2 ^ 16 := Nat.pow_le_pow_right (by decide) (by omega)
      have small : l.range.chunks ≤ 65536 := chunks
      rw [toNat_place (by omega), Nat.pow_zero, Nat.mul_one]
      rfl
    | false =>
      refine ⟨_, _, _, exec_of_run (c := .query) run (query.trans (if_neg (by rw [view]; decide))) rfl, first, fun _ =>
        ⟨queryResult1_toNat sound, ?_⟩, nofun⟩
      rw [queryResult2_toNat (s.entry h.entry) sound, Lease.effectiveBit]
      cases l.slot <;> rfl

end Sys2Proof.Machine
end
